-- ==== Sys2Proof/Word.lean ====
section
/-! DEFINITION. The words, bytes and numbers of the 1640, and the two plain operations on vectors of
records (replace one, rewrite all) that every block's table uses. -/

namespace Sys2Proof

/-- A word of the local port, and a 2-byte field of a frame: 16 bits (00_scope.md, Conventions). -/
abbrev Word := BitVec 16

/-- A byte: 8 bits. -/
abbrev Byte := BitVec 8

/-- A lock ID that has passed its range check: 0 to 4095 (R1). -/
abbrev LockId := BitVec 12

/-- A port word address, WA13 to WA0 (R168). -/
abbrev PortAddr := BitVec 14

/-- A station number, 0 to 15 (R154). -/
abbrev Station := Fin 16

/-- A slot number of the request table, which is also the tag of the slot's frames: 0 to 31 (R44). -/
abbrev Tag := Fin 32

/-- A lock ID as a 16-bit word, 0 in the bits above (R8, R193). -/
def lockWord (l : LockId) : Word := l.setWidth 16

/-- A station number as a word. -/
def stationWord (p : Station) : Word := BitVec.ofNat 16 p.val

/-- A station number as a byte of a frame. -/
def stationByte (p : Station) : Byte := BitVec.ofNat 8 p.val

/-- The station whose number is the low four bits of a number already checked to be at most 15. -/
def stationOfNat (n : Nat) : Station := Fin.ofNat 16 n

/-- The slot whose number is the low five bits of a number already checked to be at most 31. -/
def tagOfNat (n : Nat) : Tag := Fin.ofNat 32 n

/-- The most significant byte of a word. -/
def hiByte (w : Word) : Byte := (w >>> 8).setWidth 8

/-- The least significant byte of a word. -/
def loByte (w : Word) : Byte := w.setWidth 8

/-- The word of two bytes, most significant byte first (R193). -/
def wordOf (hi lo : Byte) : Word := hi ++ lo

/-- Replace the record at one index. -/
def vset {α : Type} {n : Nat} (v : Vector α n) (i : Fin n) (x : α) : Vector α n :=
  v.set i.val x i.isLt

/-- Rewrite every record, each from its index and its old content. -/
def vmapIdx {α β : Type} {n : Nat} (f : Fin n → α → β) (v : Vector α n) : Vector β n :=
  ⟨((List.finRange n).map (fun i => f i (v.get i))).toArray, by simp⟩

end Sys2Proof
end

