-- ==== Sys2Proof/Config.lean ====
section
/-! DEFINITION. The fixed quantities of the 1640 (00_scope.md, "Capacities and fixed quantities"). The spec
leaves no result of a command undefined, so the model has no free value; what it leaves open (the order of
several LOST records of one event, what the straps hold before the first reset) is in the assumption log. -/

namespace Sys2Proof.Config

/-- Home table entries (R12). -/
def homeEntries : Nat := 256

/-- Waiter records of the waiter pool (R17). -/
def waiterRecords : Nat := 128

/-- Inbound request queue entries (R19). -/
def inboundEntries : Nat := 8

/-- Entries of each outbound queue (R113, R114). -/
def outboundEntries : Nat := 32

/-- Outbound response entries that must be free before a service step or a walk step (R21, R35). -/
def reservedResponses : Nat := 16

/-- Completion queue records (R74). -/
def completionRecords : Nat := 64

/-- The longest value block, in bytes (R11). -/
def valueBytes : Nat := 16

/-- The longest frame body, in bytes (R79, R99). -/
def maxBody : Nat := 23

/-- Unanswered attempts of one frame that lead to a purge (R123). -/
def maxAttempts : Nat := 8

/-- The hold-off of a destination, in bit times (R121). -/
def holdOffBits : Nat := 1024

/-- The highest lock ID (R1). -/
def maxLockId : Nat := 4095

/-- The part code read at 000h (R180). -/
def partCode : Word := 0x1640#16

/-- Positions of an arbitration cycle (R102). -/
def positions : Nat := 16

/-- CLK32 cycles of one bit time, by rate class (R96). -/
def cyclesPerBit (rateClass : BitVec 2) : Nat := 32 / 2 ^ rateClass.toNat

/-- Bit times of one position (R102). -/
def positionBits : Nat := 12

/-- Least bit times of an acknowledgement window (R100). -/
def windowBits : Nat := 80

/-- Recessive bit times after which START-UP ends, and after which an incomplete transmission has ended
(R99, R112). -/
def idleBits : Nat := 11

end Sys2Proof.Config
end

