-- ==== Sys2Proof/Machine/Codes.lean ====
section
/-! DEFINITION. The named states, kinds, reasons, causes and results of the 1640, each with its numeric
code (11_layouts_and_codes.md, section 11.3, R195). -/

namespace Sys2Proof.Machine

/-- The six strap inputs at the end of a reset: SN3 to SN0 and BR1, BR0 (R154). -/
structure Straps where
  stationNumber : Station
  rateClass : BitVec 2
  deriving DecidableEq, Repr

/-- The two lock modes (R2). -/
inductive LockMode where
  | exclusive
  | shared
  deriving DecidableEq, Repr

/-- TRY grants at once or denies with BUSY; QUEUE grants or queues (R2). -/
inductive WaitKind where
  | tryOnce
  | queue
  deriving DecidableEq, Repr

/-- The ten kinds of frame (R79). -/
inductive FrameKind where
  | acquire
  | release
  | cancel
  | grant
  | deny
  | released
  | cancelled
  | presence
  | leave
  | ack
  deriving DecidableEq, Repr

/-- The four results an ACK carries (R88). -/
inductive AckResult where
  | accept
  | busy
  | reject
  | unheard
  deriving DecidableEq, Repr

/-- Why a home refuses an ACQUIRE (R84). -/
inductive DenyReason where
  | busy
  | tableFull
  | poolFull
  | notHome
  | duplicate
  deriving DecidableEq, Repr

/-- The outcome a RELEASED frame carries (R84). -/
inductive ReleasedOutcome where
  | ok
  | valueIgnored
  | stale
  deriving DecidableEq, Repr

/-- The outcome a CANCELLED frame carries (R84). -/
inductive CancelledOutcome where
  | withdrawn
  | afterGrant
  | notFound
  deriving DecidableEq, Repr

/-- The causes of a peer purge (R139). -/
inductive PurgeCause where
  | silence
  | noAnswer
  | left
  | restarted
  | disowned
  | mismatch
  deriving DecidableEq, Repr

/-- The one reason table of section 11.3: DENY reasons, RELEASED and CANCELLED outcomes, record reasons and
result-word details. -/
inductive Reason where
  | none
  | deny (r : DenyReason)
  | cancelled (o : CancelledOutcome)
  | unsent
  | released (o : ReleasedOutcome)
  | purge (c : PurgeCause)
  | localLeave
  deriving DecidableEq, Repr

/-- The kinds of a completion record (R72). -/
inductive CompletionKind where
  | granted
  | denied
  | timeout
  | cancelled
  | released
  | releaseRefused
  | lost
  deriving DecidableEq, Repr

/-- A slot opened by a command or by a window read (R44). -/
inductive Origin where
  | command
  | window
  deriving DecidableEq, Repr

/-- The states of a slot that is not FREE (R45); a FREE slot is the absence of a slot record. -/
inductive SlotState where
  | pending
  | waiting
  | held
  | releasing
  | cancelling
  | done
  deriving DecidableEq, Repr

/-- Why a slot is being cancelled (R44, R61). -/
inductive CancelCause where
  | none
  | software
  | timeout
  | windowLimit
  deriving DecidableEq, Repr

/-- The state of a home table entry (R12). -/
inductive LockState where
  | free
  | shared
  | exclusive
  deriving DecidableEq, Repr

/-- The state of a peer record (R136). -/
inductive PeerState where
  | unknown
  | present
  | absent
  | mismatched
  deriving DecidableEq, Repr

/-- The four station states (R153). -/
inductive StationState where
  | config
  | joining
  | online
  | leaving
  deriving DecidableEq, Repr

/-- Which reset came last (R166). -/
inductive ResetCause where
  | powerOn
  | portReset
  deriving DecidableEq, Repr

/-- The last START refusal (R166). -/
inductive StartRefusal where
  | none
  | badEpoch
  | badTiming
  | badMap
  deriving DecidableEq, Repr

/-- The submission results (R177); `none` is the value after a reset (R169). -/
inductive SubmissionResult where
  | none
  | accepted
  | notOnline
  | badField
  | unmapped
  | homeUnavailable
  | duplicate
  | noSlot
  | notHeld
  | notWaiting
  | notOpen
  | started
  | notInConfig
  | badEpoch
  | badTiming
  | badMap
  | leaving
  deriving DecidableEq, Repr

/-- The line phases of the bus access unit (R112). -/
inductive LinePhase where
  | startUp
  | cycle
  | frame
  | window
  deriving DecidableEq, Repr

/-- The last answer of a started frame (R116). -/
inductive LastAnswer where
  | none
  | busy
  | unheard
  deriving DecidableEq, Repr

/-- The two outbound queues (R113, R114). -/
inductive OutQueue where
  | request
  | response
  deriving DecidableEq, Repr

/-- The commands of the submit word (R173). -/
inductive Command where
  | acquire
  | release
  | cancel
  | start
  | leave
  deriving DecidableEq, Repr

/-- EXCLUSIVE 1, SHARED 2, on the bus, in staging words and in records. -/
def LockMode.code : LockMode → Byte
  | .exclusive => 0x01#8
  | .shared => 0x02#8

/-- TRY 1, QUEUE 2. -/
def WaitKind.code : WaitKind → Byte
  | .tryOnce => 0x01#8
  | .queue => 0x02#8

/-- The mode a number names, if any. -/
def modeOfCode (n : Nat) : Option LockMode :=
  match n with
  | 1 => some .exclusive
  | 2 => some .shared
  | _ => none

/-- The wait kind a number names, if any. -/
def waitOfCode (n : Nat) : Option WaitKind :=
  match n with
  | 1 => some .tryOnce
  | 2 => some .queue
  | _ => none

/-- Frame kind codes, header bits 7 to 4. -/
def FrameKind.code : FrameKind → BitVec 4
  | .acquire => 0x1#4
  | .release => 0x2#4
  | .cancel => 0x3#4
  | .grant => 0x4#4
  | .deny => 0x5#4
  | .released => 0x6#4
  | .cancelled => 0x7#4
  | .presence => 0x8#4
  | .leave => 0x9#4
  | .ack => 0xA#4

/-- The frame kind a code names; codes 0h and Bh to Fh are undefined. -/
def kindOfCode (n : Nat) : Option FrameKind :=
  match n with
  | 1 => some .acquire
  | 2 => some .release
  | 3 => some .cancel
  | 4 => some .grant
  | 5 => some .deny
  | 6 => some .released
  | 7 => some .cancelled
  | 8 => some .presence
  | 9 => some .leave
  | 10 => some .ack
  | _ => none

/-- ACK result codes. -/
def AckResult.code : AckResult → Byte
  | .accept => 0x01#8
  | .busy => 0x02#8
  | .reject => 0x03#8
  | .unheard => 0x04#8

/-- The ACK result a code names, if any. -/
def ackResultOfCode (n : Nat) : Option AckResult :=
  match n with
  | 1 => some .accept
  | 2 => some .busy
  | 3 => some .reject
  | 4 => some .unheard
  | _ => none

/-- Reason codes carried by DENY. -/
def DenyReason.code : DenyReason → Byte
  | .busy => 0x01#8
  | .tableFull => 0x02#8
  | .poolFull => 0x03#8
  | .notHome => 0x04#8
  | .duplicate => 0x05#8

/-- The DENY reason a code names, if any. -/
def denyReasonOfCode (n : Nat) : Option DenyReason :=
  match n with
  | 1 => some .busy
  | 2 => some .tableFull
  | 3 => some .poolFull
  | 4 => some .notHome
  | 5 => some .duplicate
  | _ => none

/-- Outcome codes carried by CANCELLED. -/
def CancelledOutcome.code : CancelledOutcome → Byte
  | .withdrawn => 0x08#8
  | .afterGrant => 0x09#8
  | .notFound => 0x0A#8

/-- The CANCELLED outcome a code names, if any. -/
def cancelledOutcomeOfCode (n : Nat) : Option CancelledOutcome :=
  match n with
  | 8 => some .withdrawn
  | 9 => some .afterGrant
  | 10 => some .notFound
  | _ => none

/-- Outcome codes carried by RELEASED. -/
def ReleasedOutcome.code : ReleasedOutcome → Byte
  | .ok => 0x10#8
  | .valueIgnored => 0x11#8
  | .stale => 0x12#8

/-- The RELEASED outcome a code names, if any. -/
def releasedOutcomeOfCode (n : Nat) : Option ReleasedOutcome :=
  match n with
  | 16 => some .ok
  | 17 => some .valueIgnored
  | 18 => some .stale
  | _ => none

/-- Codes of the purge causes in the reason table. -/
def PurgeCause.code : PurgeCause → Byte
  | .silence => 0x18#8
  | .noAnswer => 0x19#8
  | .left => 0x1A#8
  | .restarted => 0x1B#8
  | .disowned => 0x1C#8
  | .mismatch => 0x1D#8

/-- The one reason table. -/
def Reason.code : Reason → Byte
  | .none => 0x00#8
  | .deny r => r.code
  | .cancelled o => o.code
  | .unsent => 0x0B#8
  | .released o => o.code
  | .purge c => c.code
  | .localLeave => 0x1E#8

/-- Completion kind codes; NONE is 00h. -/
def CompletionKind.code : CompletionKind → Byte
  | .granted => 0x01#8
  | .denied => 0x02#8
  | .timeout => 0x03#8
  | .cancelled => 0x04#8
  | .released => 0x05#8
  | .releaseRefused => 0x06#8
  | .lost => 0x07#8

/-- COMMAND 0, WINDOW 1. -/
def Origin.code : Origin → BitVec 1
  | .command => 0#1
  | .window => 1#1

/-- Slot state codes; FREE is 0. -/
def SlotState.code : SlotState → BitVec 4
  | .pending => 1#4
  | .waiting => 2#4
  | .held => 3#4
  | .releasing => 4#4
  | .cancelling => 5#4
  | .done => 6#4

/-- Probe state codes. -/
def LockState.code : LockState → BitVec 2
  | .free => 0#2
  | .shared => 1#2
  | .exclusive => 2#2

/-- Roster state codes; SELF is 7. -/
def PeerState.code : PeerState → BitVec 3
  | .unknown => 0#3
  | .present => 1#3
  | .absent => 2#3
  | .mismatched => 3#3

/-- Station state codes. -/
def StationState.code : StationState → BitVec 2
  | .config => 0#2
  | .joining => 1#2
  | .online => 2#2
  | .leaving => 3#2

/-- Reset cause codes. -/
def ResetCause.code : ResetCause → BitVec 1
  | .powerOn => 0#1
  | .portReset => 1#1

/-- Last start refusal codes. -/
def StartRefusal.code : StartRefusal → BitVec 2
  | .none => 0#2
  | .badEpoch => 1#2
  | .badTiming => 2#2
  | .badMap => 3#2

/-- Submission result codes. -/
def SubmissionResult.code : SubmissionResult → Byte
  | .none => 0x00#8
  | .accepted => 0x01#8
  | .notOnline => 0x02#8
  | .badField => 0x03#8
  | .unmapped => 0x04#8
  | .homeUnavailable => 0x05#8
  | .duplicate => 0x06#8
  | .noSlot => 0x07#8
  | .notHeld => 0x08#8
  | .notWaiting => 0x09#8
  | .notOpen => 0x0A#8
  | .started => 0x10#8
  | .notInConfig => 0x11#8
  | .badEpoch => 0x12#8
  | .badTiming => 0x13#8
  | .badMap => 0x14#8
  | .leaving => 0x18#8

/-- The command a value written to the submit word names, if any; the whole 16-bit value is judged. -/
def commandOfCode (n : Nat) : Option Command :=
  match n with
  | 1 => some .acquire
  | 2 => some .release
  | 3 => some .cancel
  | 4 => some .start
  | 5 => some .leave
  | _ => none

/-- The submission result code that reports a START refusal (R156). -/
def StartRefusal.result : StartRefusal → SubmissionResult
  | .none => .started
  | .badEpoch => .badEpoch
  | .badTiming => .badTiming
  | .badMap => .badMap

/-- The state of an entry held in a mode (R12). -/
def LockMode.lockState : LockMode → LockState
  | .exclusive => .exclusive
  | .shared => .shared

end Sys2Proof.Machine
end

