-- ==== Sys2Proof/Machine/Wire.lean ====
section
/-! DEFINITION. Frames on the peer bus: the CRC (R7, R80), the fields of each kind (R81 to R87), the bytes
they travel as (R79, R193, section 11.1) and the checks of a received frame (R90). -/

namespace Sys2Proof.Machine

/-- The body of a request frame (R83). The value block of a RELEASE is a list of bytes; its length travels
as the value length field. -/
inductive RequestBody where
  | acquire (lock : LockId) (tag : Tag) (mode : LockMode) (wait : WaitKind)
  | release (lock : LockId) (tag : Tag) (generation : Word) (update : Bool) (value : List Byte)
  | cancel (lock : LockId) (tag : Tag)
  deriving DecidableEq, Repr

/-- The body of a response frame (R84). -/
inductive ResponseBody where
  | grant (lock : LockId) (tag : Tag) (mode : LockMode) (generation : Word) (value : List Byte)
  | deny (lock : LockId) (tag : Tag) (reason : DenyReason)
  | released (lock : LockId) (tag : Tag) (outcome : ReleasedOutcome)
  | cancelled (lock : LockId) (tag : Tag) (outcome : CancelledOutcome)
  deriving DecidableEq, Repr

/-- The body of any frame (R83 to R87). -/
inductive FrameBody where
  | request (b : RequestBody)
  | response (b : ResponseBody)
  | presence (epoch digest syncWait : Word)
  | leave (epoch : Word)
  | ack (echo : Byte) (result : AckResult)
  deriving DecidableEq, Repr

/-- One frame: the header fields of R81 that the kind and the body do not already give, and the body. -/
structure Frame where
  sync : Bool
  fresh : Bool
  destination : Byte
  source : Station
  sequence : Byte
  body : FrameBody
  deriving DecidableEq, Repr

/-- The checks of R90, by what fails. -/
inductive CheckFailure where
  | incomplete
  | crc
  | kind
  | length
  | header
  | placement
  | fieldValues
  deriving DecidableEq, Repr

/-- What the bus access unit makes of a transmission that has ended (R99): a complete frame, with its bytes
after the delimiter, or an incomplete transmission, which one whose first character is not 55h is taken as. -/
inductive Reception where
  | complete (bytes : List Byte)
  | incomplete
  deriving DecidableEq, Repr

/-! ## CRC (R7) -/

/-- One bit of the CRC procedure: the exclusive OR of the bit and the register's most significant bit
decides whether the shifted register takes 1021h. -/
def crcBit (r : Word) (b : Bool) : Word :=
  if r.msb != b then (r <<< 1) ^^^ 0x1021#16 else r <<< 1

/-- The eight bits of a byte, most significant first. -/
def bitsOf (b : Byte) : List Bool :=
  [b.getLsbD 7, b.getLsbD 6, b.getLsbD 5, b.getLsbD 4, b.getLsbD 3, b.getLsbD 2, b.getLsbD 1, b.getLsbD 0]

/-- The CRC of a byte sequence, from the initial value FFFFh. -/
def crc16 (bytes : List Byte) : Word :=
  bytes.foldl (fun r b => (bitsOf b).foldl crcBit r) 0xFFFF#16

/-! ## Fields of the bodies -/

/-- The lock ID a request concerns. -/
def RequestBody.lock : RequestBody → LockId
  | .acquire l _ _ _ => l
  | .release l _ _ _ _ => l
  | .cancel l _ => l

/-- The tag of a request: the requester's slot. -/
def RequestBody.tag : RequestBody → Tag
  | .acquire _ t _ _ => t
  | .release _ t _ _ _ => t
  | .cancel _ t => t

/-- Whether a request is an ACQUIRE. -/
def RequestBody.isAcquire : RequestBody → Bool
  | .acquire _ _ _ _ => true
  | .release _ _ _ _ _ => false
  | .cancel _ _ => false

/-- The lock ID a response concerns. -/
def ResponseBody.lock : ResponseBody → LockId
  | .grant l _ _ _ _ => l
  | .deny l _ _ => l
  | .released l _ _ => l
  | .cancelled l _ _ => l

/-- The tag of a response. -/
def ResponseBody.tag : ResponseBody → Tag
  | .grant _ t _ _ _ => t
  | .deny _ t _ => t
  | .released _ t _ => t
  | .cancelled _ t _ => t

/-- The kind of a frame, from its body. -/
def FrameBody.kind : FrameBody → FrameKind
  | .request (.acquire _ _ _ _) => .acquire
  | .request (.release _ _ _ _ _) => .release
  | .request (.cancel _ _) => .cancel
  | .response (.grant _ _ _ _ _) => .grant
  | .response (.deny _ _ _) => .deny
  | .response (.released _ _ _) => .released
  | .response (.cancelled _ _ _) => .cancelled
  | .presence _ _ _ => .presence
  | .leave _ => .leave
  | .ack _ _ => .ack

/-- Every frame but the ACK is arbitrated (04_peer_frames.md, introduction). -/
def FrameBody.arbitrated : FrameBody → Bool
  | .ack _ _ => false
  | .request _ => true
  | .response _ => true
  | .presence _ _ _ => true
  | .leave _ => true

/-! ## Bytes of a frame (R79, R193) -/

/-- A tag as a byte. -/
def tagByte (t : Tag) : Byte := BitVec.ofNat 8 t.val

/-- A 2-byte field, most significant byte first. -/
def wordBytes (w : Word) : List Byte := [hiByte w, loByte w]

/-- The length byte of a value block. -/
def lengthByte (v : List Byte) : Byte := BitVec.ofNat 8 v.length

/-- The update flag: 00h clear, 01h set. -/
def updateByte (u : Bool) : Byte := if u then 0x01#8 else 0x00#8

/-- The body bytes of a frame, by section 11.1. -/
def FrameBody.bytes : FrameBody → List Byte
  | .request (.acquire l t m w) => wordBytes (lockWord l) ++ [tagByte t, m.code, w.code]
  | .request (.release l t g u v) =>
      wordBytes (lockWord l) ++ [tagByte t] ++ wordBytes g ++ [updateByte u, lengthByte v] ++ v
  | .request (.cancel l t) => wordBytes (lockWord l) ++ [tagByte t]
  | .response (.grant l t m g v) =>
      wordBytes (lockWord l) ++ [tagByte t, m.code] ++ wordBytes g ++ [lengthByte v] ++ v
  | .response (.deny l t r) => wordBytes (lockWord l) ++ [tagByte t, r.code]
  | .response (.released l t o) => wordBytes (lockWord l) ++ [tagByte t, o.code]
  | .response (.cancelled l t o) => wordBytes (lockWord l) ++ [tagByte t, o.code]
  | .presence e d w => wordBytes e ++ wordBytes d ++ wordBytes w
  | .leave e => wordBytes e
  | .ack s r => [s, r.code]

/-- The first header byte: kind, SYNC, FRESH, and two bits sent 0. -/
def kindByte (k : FrameKind) (sync fresh : Bool) : Byte :=
  k.code ++ BitVec.ofBool sync ++ BitVec.ofBool fresh ++ 0#2

/-- Header and body: the bytes the CRC covers (R80). -/
def Frame.coveredBytes (f : Frame) : List Byte :=
  [kindByte f.body.kind f.sync f.fresh, f.destination, stationByte f.source, f.sequence,
    BitVec.ofNat 8 f.body.bytes.length] ++ f.body.bytes

/-- The whole frame after the delimiter: header, body, CRC (R79). -/
def Frame.bytes (f : Frame) : List Byte :=
  f.coveredBytes ++ wordBytes (crc16 f.coveredBytes)

/-- The destination byte of a broadcast (R81). -/
def broadcastByte : Byte := 0xFF#8

/-! ## The checks of a received frame (R90) -/

/-- The body length R79 gives for a kind and a body (check 4): for RELEASE and GRANT it follows from the
value length carried inside. -/
def bodyLengthOk (k : FrameKind) (body : List Byte) : Bool :=
  match k with
  | .acquire => body.length == 5
  | .cancel => body.length == 3
  | .deny => body.length == 4
  | .released => body.length == 4
  | .cancelled => body.length == 4
  | .presence => body.length == 6
  | .leave => body.length == 2
  | .ack => body.length == 2
  | .release =>
      match body with
      | _ :: _ :: _ :: _ :: _ :: _ :: n :: v => decide (n.toNat ≤ Config.valueBytes) && v.length == n.toNat
      | _ => false
  | .grant =>
      match body with
      | _ :: _ :: _ :: _ :: _ :: _ :: n :: v => decide (n.toNat ≤ Config.valueBytes) && v.length == n.toNat
      | _ => false

/-- Check 5: the source is a station number, a broadcast has the destination FFh, and any other frame has
a station number as destination. -/
def headerOk (k : FrameKind) (destination source : Byte) : Bool :=
  decide (source.toNat ≤ 15) &&
    match k with
    | .presence => destination == broadcastByte
    | .leave => destination == broadcastByte
    | .acquire => decide (destination.toNat ≤ 15)
    | .release => decide (destination.toNat ≤ 15)
    | .cancel => decide (destination.toNat ≤ 15)
    | .grant => decide (destination.toNat ≤ 15)
    | .deny => decide (destination.toNat ≤ 15)
    | .released => decide (destination.toNat ≤ 15)
    | .cancelled => decide (destination.toNat ≤ 15)
    | .ack => decide (destination.toNat ≤ 15)

/-- Check 6: an ACK begins inside an acknowledgement window, an arbitrated frame outside one. -/
def placementOk (k : FrameKind) (inWindow : Bool) : Bool :=
  if k = .ack then inWindow else !inWindow

/-- A lock ID field: the number, if it is not above 4095. -/
def lockField (hi lo : Byte) : Option LockId :=
  if (wordOf hi lo).toNat ≤ Config.maxLockId then some ((wordOf hi lo).setWidth 12) else none

/-- A tag field: the number, if it is not above 31. -/
def tagField (b : Byte) : Option Tag :=
  if b.toNat ≤ 31 then some (tagOfNat b.toNat) else none

/-- A generation or epoch field: not 0. -/
def nonzeroField (hi lo : Byte) : Option Word :=
  if wordOf hi lo = 0#16 then none else some (wordOf hi lo)

/-- An update flag field: neither set nor clear is no flag. -/
def updateField (b : Byte) : Option Bool :=
  if b = 0x00#8 then some false else if b = 0x01#8 then some true else none

/-- Check 7: the body's fields, every one with a defined value that belongs to its kind, or none. -/
def parseBody (k : FrameKind) (body : List Byte) : Option FrameBody :=
  match k, body with
  | .acquire, [a, b, t, m, w] => do
      let l ← lockField a b
      let t ← tagField t
      let m ← modeOfCode m.toNat
      let w ← waitOfCode w.toNat
      some (.request (.acquire l t m w))
  | .release, a :: b :: t :: g :: h :: u :: _ :: v => do
      let l ← lockField a b
      let t ← tagField t
      let g ← nonzeroField g h
      let u ← updateField u
      if u = false ∧ v ≠ [] then none else some (.request (.release l t g u v))
  | .cancel, [a, b, t] => do
      let l ← lockField a b
      let t ← tagField t
      some (.request (.cancel l t))
  | .grant, a :: b :: t :: m :: g :: h :: _ :: v => do
      let l ← lockField a b
      let t ← tagField t
      let m ← modeOfCode m.toNat
      let g ← nonzeroField g h
      some (.response (.grant l t m g v))
  | .deny, [a, b, t, r] => do
      let l ← lockField a b
      let t ← tagField t
      let r ← denyReasonOfCode r.toNat
      some (.response (.deny l t r))
  | .released, [a, b, t, o] => do
      let l ← lockField a b
      let t ← tagField t
      let o ← releasedOutcomeOfCode o.toNat
      some (.response (.released l t o))
  | .cancelled, [a, b, t, o] => do
      let l ← lockField a b
      let t ← tagField t
      let o ← cancelledOutcomeOfCode o.toNat
      some (.response (.cancelled l t o))
  | .presence, [a, b, c, d, e, f] => do
      let n ← nonzeroField a b
      some (.presence n (wordOf c d) (wordOf e f))
  | .leave, [a, b] => do
      let n ← nonzeroField a b
      some (.leave n)
  | .ack, [s, r] => do
      let r ← ackResultOfCode r.toNat
      some (.ack s r)
  | _, _ => none

/-- Checks 2 to 7 of R90, in their order, on a frame that is complete. `payload` is the body and the two
CRC bytes. -/
def checkComplete (inWindow : Bool) (kb dest src seq len : Byte) (payload : List Byte) :
    Except CheckFailure Frame :=
  let body := payload.take len.toNat
  if payload.drop len.toNat ≠ wordBytes (crc16 ([kb, dest, src, seq, len] ++ body)) then .error .crc else
  match kindOfCode (kb.toNat / 16) with
  | none => .error .kind
  | some k =>
    if bodyLengthOk k body = false then .error .length else
    if headerOk k dest src = false then .error .header else
    if placementOk k inWindow = false then .error .placement else
    match parseBody k body with
    | none => .error .fieldValues
    | some b =>
      .ok { sync := kb.getLsbD 3, fresh := kb.getLsbD 2, destination := dest,
            source := stationOfNat src.toNat, sequence := seq, body := b }

/-- The checks of R90, in their order, on what the bus access unit received. Check 1 asks for the five
header bytes, a body length of at most 23 (R99), and exactly the body and the two CRC bytes after them. -/
def checkFrame (inWindow : Bool) (rx : Reception) : Except CheckFailure Frame :=
  match rx with
  | .incomplete => .error .incomplete
  | .complete (kb :: dest :: src :: seq :: len :: payload) =>
      if len.toNat ≤ Config.maxBody ∧ payload.length = len.toNat + 2 then
        checkComplete inWindow kb dest src seq len payload
      else .error .incomplete
  | .complete _ => .error .incomplete

/-- The station a frame is addressed to; none for a broadcast. -/
def Frame.addressee (f : Frame) : Option Station :=
  if f.destination.toNat ≤ 15 then some (stationOfNat f.destination.toNat) else none

/-! ## Frames the station builds (R81, R82) -/

/-- An addressed frame: source the own number, the sequence number and SYNC flag as started. -/
def addressedFrame (own dest : Station) (seq : Byte) (sync : Bool) (b : FrameBody) : Frame :=
  { sync := sync, fresh := false, destination := stationByte dest, source := own, sequence := seq, body := b }

/-- A PRESENCE: destination FFh, sequence number field 0, SYNC clear (R85). -/
def presenceFrame (own : Station) (fresh : Bool) (epoch digest syncWait : Word) : Frame :=
  { sync := false, fresh := fresh, destination := broadcastByte, source := own, sequence := 0#8,
    body := .presence epoch digest syncWait }

/-- A LEAVE: destination FFh, both flags clear (R86). -/
def leaveFrame (own : Station) (epoch : Word) : Frame :=
  { sync := false, fresh := false, destination := broadcastByte, source := own, sequence := 0#8,
    body := .leave epoch }

/-- An ACK to the source of the frame it answers, echoing that frame's sequence number (R87). -/
def ackFrame (own dest : Station) (echo : Byte) (result : AckResult) : Frame :=
  { sync := false, fresh := false, destination := stationByte dest, source := own, sequence := 0#8,
    body := .ack echo result }

/-- A frame whose fields the layouts can carry (R79, R81, R83 to R87): a value block of at most 16 bytes, no
value on a RELEASE without update, generation and epoch not 0, and the destination its kind takes. -/
def Frame.wf (f : Frame) : Bool :=
  headerOk f.body.kind f.destination (stationByte f.source) &&
    match f.body with
    | .request (.release _ _ g u v) => g != 0#16 && decide (v.length ≤ Config.valueBytes) && (u || v.isEmpty)
    | .response (.grant _ _ _ g v) => g != 0#16 && decide (v.length ≤ Config.valueBytes)
    | .presence e _ _ => e != 0#16
    | .leave e => e != 0#16
    | .request (.acquire _ _ _ _) => true
    | .request (.cancel _ _) => true
    | .response (.deny _ _ _) => true
    | .response (.released _ _ _) => true
    | .response (.cancelled _ _ _) => true
    | .ack _ _ => true

/-! ## Characters and levels on the line (R97, R98) -/

/-- The levels of the line, one for each bit time, sampled at its middle; `true` is dominant (R97). -/
abbrev Levels := List Bool

/-- The start delimiter byte. -/
def delimiter : Byte := 0x55#8

/-- The ten levels of a character: a dominant start bit, the data bits most significant first with a 0 sent
dominant, and a recessive stop bit. -/
def characterLevels (b : Byte) : Levels :=
  [true] ++ (bitsOf b).map (fun x => !x) ++ [false]

/-- The levels of a whole transmission: the delimiter and then the frame's bytes, without a pause. -/
def Frame.levels (f : Frame) : Levels :=
  characterLevels delimiter ++ f.bytes.flatMap characterLevels

/-! ## Receiving a transmission (R99) -/

/-- The byte of eight data levels, most significant first; a recessive level is a 1 (R97). -/
def byteOfLevels (a b c d e f g h : Bool) : Byte :=
  BitVec.ofBool (!a) ++ BitVec.ofBool (!b) ++ BitVec.ofBool (!c) ++ BitVec.ofBool (!d) ++
    BitVec.ofBool (!e) ++ BitVec.ofBool (!f) ++ BitVec.ofBool (!g) ++ BitVec.ofBool (!h)

/-- One character at the head of the levels, and the levels after it; none when its start bit fails to follow
or its stop bit is dominant (R97, R99). -/
def readCharacter : Levels → Option (Byte × Levels)
  | true :: a :: b :: c :: d :: e :: f :: g :: h :: false :: rest => some (byteOfLevels a b c d e f g h, rest)
  | _ => none

/-- A number of characters one after the other, each start bit following the stop bit before it at once; none
when one of them fails (R99). -/
def readCharacters : Nat → Levels → Option (List Byte × Levels)
  | 0, ls => some ([], ls)
  | n + 1, ls =>
    match readCharacter ls with
    | none => none
    | some (b, rest) =>
      match readCharacters n rest with
      | none => none
      | some (bs, rest) => some (b :: bs, rest)

/-- A frame at the head of the levels, and the levels after it (R99): the delimiter, five header bytes, the last
of which gives the body length, and then the body and the two CRC bytes. None when the first character is not
55h, a character fails, or the body length exceeds 23. -/
def readFrame (levels : Levels) : Option (List Byte × Levels) :=
  match readCharacter levels with
  | none => none
  | some (first, rest) =>
    if first ≠ delimiter then none else
    match readCharacters 5 rest with
    | none => none
    | some (header, rest) =>
      let length := (header.getD 4 0#8).toNat
      if Config.maxBody < length then none else
      match readCharacters (length + 2) rest with
      | none => none
      | some (payload, rest) => some (header ++ payload, rest)

/-- The levels after the first recessive run of 11 bit times, `run` of them seen before; none when there is no
such run: where a transmission that is no frame ends and is received (R99). -/
def afterClosingRun (run : Nat) : Levels → Option Levels
  | [] => none
  | dominant :: rest =>
    if dominant then afterClosingRun 0 rest
    else if run + 1 = Config.idleBits then some rest
    else afterClosingRun (run + 1) rest

/-- What the unit makes of the transmission at the head of the levels (R99). -/
def receptionOf (levels : Levels) : Reception :=
  match readFrame levels with
  | some (bytes, _) => .complete bytes
  | none => .incomplete

/-- The levels are those of one transmission, from its first dominant bit to its receipt (R99): to the last stop
bit of a complete frame, or to the end of the recessive run that closes any other. -/
def oneTransmission (levels : Levels) : Bool :=
  decide (levels.head? = some true) &&
    match readFrame levels with
    | some (_, rest) => rest.isEmpty
    | none => decide (afterClosingRun 0 levels = some [])

end Sys2Proof.Machine
end

