-- ==== Sys2Proof/Syntax.lean ====
section
/-! DEFINITION. The commands of the block: one constructor for each row of spec/opcode_table.json, with the
operands its rule needs (log 2, log 13). Commands submitted through the submit word take their fields from
the staging words or the configuration block (R172, R156), so they carry none here. -/

namespace Sys2Proof

open Sys2Proof.Machine

/-- The 39 commands. -/
inductive Instr where
  /-- ACQUIRE: the ACQUIRE code written to the submit word (R174). -/
  | acquire
  /-- RELEASE: the RELEASE code written to the submit word (R175). -/
  | release
  /-- CANCEL: the CANCEL code written to the submit word (R176). -/
  | cancel
  /-- START: the START code written to the submit word (R156). -/
  | start
  /-- LEAVE: the LEAVE code written to the submit word (R162). -/
  | leave
  /-- POP: a write of any value to 04Ch (R179). -/
  | pop (value : Word)
  /-- INTERRUPT_ENABLE: a write to 002h (R170). -/
  | interruptEnable (value : Word)
  /-- REGISTER_WRITE: a write to a word with no behaviour of its own (R168). -/
  | registerWrite (address : PortAddr) (value : Word)
  /-- ACQUIRE_WINDOW_READ: a read in the exclusive or shared acquire window, at an offset (R185). -/
  | acquireWindowRead (mode : LockMode) (offset : LockId)
  /-- RELEASE_WINDOW_WRITE: a write in the release window, at an offset (R192). -/
  | releaseWindowWrite (offset : LockId) (value : Word)
  /-- READ_STROBE_WITHDRAWAL: the processor withdraws its read strobe (R190). -/
  | readStrobeWithdrawal
  /-- WINDOW_WAIT_LIMIT_EXPIRY: the stalled read's timer runs out (R189). -/
  | windowWaitLimitExpiry
  /-- POWER_ON_RESET: the supply rises; the straps are sampled at its end (R164, R154). -/
  | powerOnReset (straps : Straps)
  /-- PORT_RESET: RST- is asserted (R165). -/
  | portReset
  /-- PORT_RESET_RELEASE: RST- is released; the straps are sampled (R165, R154). -/
  | portResetRelease (straps : Straps)
  /-- SLOT_TIMER_EXPIRY: the timer of one slot runs out (R66). -/
  | slotTimerExpiry (slot : Tag)
  /-- ACQUIRE_AT_HOME: a service step on an ACQUIRE at the head of the inbound queue (R23). -/
  | acquireAtHome
  /-- RELEASE_AT_HOME: a service step on a RELEASE at the head of the inbound queue (R26). -/
  | releaseAtHome
  /-- CANCEL_AT_HOME: a service step on a CANCEL at the head of the inbound queue (R32). -/
  | cancelAtHome
  /-- WALK_STEP: one step of the purge walk (R35). -/
  | walkStep
  /-- LOOPBACK_MOVE: the oldest self-addressed request moves to the inbound queue (R126). -/
  | loopbackMove
  /-- SENDING_OPPORTUNITY: the own position begins (R105). -/
  | sendingOpportunity
  /-- READ_BACK_MISMATCH: the level read back at one bit time of the own transmission differs, bit 0 being
  the start bit of the delimiter (R106). -/
  | readBackMismatch (bit : Nat)
  /-- OWN_TRANSMISSION_END: the own arbitrated frame ends with no mismatch (R106). -/
  | ownTransmissionEnd
  /-- WINDOW_CLOSE: the acknowledgement window closes (R100). -/
  | windowClose
  /-- ACK_TRANSMISSION: 8 bit times after the frame answered, the ACK is begun (R108). -/
  | ackTransmission
  /-- HOLD_OFF_EXPIRY: the hold-off of one destination runs out (R121). -/
  | holdOffExpiry (destination : Station)
  /-- STARTUP_LINE_IDLE: 11 recessive bit times in START-UP (R112). -/
  | startupLineIdle
  /-- REQUEST_FRAME_RECEIPT: an ACQUIRE, RELEASE or CANCEL frame is received (R128). -/
  | requestFrameReceipt (levels : Levels)
  /-- RESPONSE_FRAME_RECEIPT: a GRANT, DENY, RELEASED or CANCELLED frame is received (R53). -/
  | responseFrameReceipt (levels : Levels)
  /-- PRESENCE_RECEIPT: a PRESENCE frame is received (R146). -/
  | presenceReceipt (levels : Levels)
  /-- LEAVE_FRAME_RECEIPT: a LEAVE frame is received (R150). -/
  | leaveFrameReceipt (levels : Levels)
  /-- ACK_RECEIPT: an ACK frame is received (R89). -/
  | ackReceipt (levels : Levels)
  /-- MALFORMED_FRAME: a malformed or incomplete transmission is received (R91). -/
  | malformedFrame (levels : Levels)
  /-- PRESENCE_TIMER_EXPIRY: the presence timer runs out (R143). -/
  | presenceTimerExpiry
  /-- SILENCE_TIMER_EXPIRY: the silence timer of one peer runs out (R149). -/
  | silenceTimerExpiry (peer : Station)
  /-- LISTEN_TIMER_EXPIRY: the listen timer runs out (R160). -/
  | listenTimerExpiry
  /-- LEAVING_TIMER_EXPIRY: the leaving timer runs out (R163). -/
  | leavingTimerExpiry
  /-- TRANSMISSION_BEGIN: the first dominant bit of another station's transmission (R102). -/
  | transmissionBegin
  deriving DecidableEq, Repr

end Sys2Proof
end

