-- ==== Sys2Proof/WellFormed.lean ====
section
/-! DEFINITION. When a command's operands are of its row: a register write goes to a word with no behaviour
of its own, a receipt carries the levels of one transmission, of a frame of its class, a read-back bit lies in
some frame. Every other operand has a type that holds only its own values. The machine gives a meaning to an
ill-formed command too: a write acts by its address (log 10), a receipt by its levels (log 13). -/

namespace Sys2Proof.WellFormed

open Sys2Proof.Machine

/-- A write to this word acts on no more than the word itself (R168): not the interrupt enable, not a
defined command at the submit word, not the pop word, not the release window. -/
def plainWord (address : PortAddr) (value : Word) : Bool :=
  let a := address.toNat
  a != 0x002 && a != 0x04C && decide (a < 0x3000) &&
    (a != 0x03E || (commandOfCode value.toNat).isNone)

/-- The levels are one transmission that passes the checks of R90 as a frame of a class; the placement is that of
its class, since the state alone says where the frame began. -/
def frameOfClass (levels : Levels) (inWindow : Bool) (cls : FrameBody → Bool) : Bool :=
  oneTransmission levels &&
    match checkFrame inWindow (receptionOf levels) with
    | .ok f => cls f.body
    | .error _ => false

/-- The classes of the five receipt rows. -/
def isRequest : FrameBody → Bool
  | .request _ => true
  | .response _ => false
  | .presence _ _ _ => false
  | .leave _ => false
  | .ack _ _ => false

/-- Response bodies. -/
def isResponse : FrameBody → Bool
  | .request _ => false
  | .response _ => true
  | .presence _ _ _ => false
  | .leave _ => false
  | .ack _ _ => false

/-- PRESENCE bodies. -/
def isPresence : FrameBody → Bool
  | .request _ => false
  | .response _ => false
  | .presence _ _ _ => true
  | .leave _ => false
  | .ack _ _ => false

/-- LEAVE bodies. -/
def isLeave : FrameBody → Bool
  | .request _ => false
  | .response _ => false
  | .presence _ _ _ => false
  | .leave _ => true
  | .ack _ _ => false

/-- ACK bodies. -/
def isAck : FrameBody → Bool
  | .request _ => false
  | .response _ => false
  | .presence _ _ _ => false
  | .leave _ => false
  | .ack _ _ => true

/-- The bit times of the longest transmission (R98): a 30-byte frame after its delimiter. -/
def longestTransmission : Nat := 310

/-- The operands of a command are of its row. -/
def instr : Instr → Bool
  | .acquire => true
  | .release => true
  | .cancel => true
  | .start => true
  | .leave => true
  | .pop _ => true
  | .interruptEnable _ => true
  | .registerWrite a v => plainWord a v
  | .acquireWindowRead _ _ => true
  | .releaseWindowWrite _ _ => true
  | .readStrobeWithdrawal => true
  | .windowWaitLimitExpiry => true
  | .powerOnReset _ => true
  | .portReset => true
  | .portResetRelease _ => true
  | .slotTimerExpiry _ => true
  | .acquireAtHome => true
  | .releaseAtHome => true
  | .cancelAtHome => true
  | .walkStep => true
  | .loopbackMove => true
  | .sendingOpportunity => true
  | .readBackMismatch b => decide (b < longestTransmission)
  | .ownTransmissionEnd => true
  | .windowClose => true
  | .ackTransmission => true
  | .holdOffExpiry _ => true
  | .startupLineIdle => true
  | .requestFrameReceipt ls => frameOfClass ls false isRequest
  | .responseFrameReceipt ls => frameOfClass ls false isResponse
  | .presenceReceipt ls => frameOfClass ls false isPresence
  | .leaveFrameReceipt ls => frameOfClass ls false isLeave
  | .ackReceipt ls => frameOfClass ls true isAck
  -- any transmission may be malformed: a valid frame in the wrong place is (check 6), and the state decides that
  | .malformedFrame ls => oneTransmission ls
  | .presenceTimerExpiry => true
  | .silenceTimerExpiry _ => true
  | .listenTimerExpiry => true
  | .leavingTimerExpiry => true
  | .transmissionBegin => true

end Sys2Proof.WellFormed
end

