-- ==== Sys2Proof/Decode.lean ====
section
/-! DEFINITION. The command a table word spells. No row of spec/opcode_table.json gives bits ("fields" is
empty and there is no "fixed" in every row), so no word spells a command. -/

namespace Sys2Proof

/-- The command that the `nbits`-bit word `w` spells by the table's bits: none, since no row gives bits. -/
def decodeTableWord (_nbits _w : Nat) : Option Instr := none

end Sys2Proof
end

