-- ==== Sys2Proof/Machine/State.lean ====
section
/-! DEFINITION. The state of the station, block by block (00_scope.md, Block overview), the reasons a step
can stop, and the state after a power-on reset. -/

namespace Sys2Proof.Machine

/-- No event stops the station (R161), so there is no fault: no constructor. Safe and unsafe do not arise. -/
inductive Fault
  deriving DecidableEq, Repr

/-- A command the model gives no meaning to. -/
inductive Refusal where
  /-- Raised by an arm of `exec` that has no meaning yet, naming its row; no arm does. Safe: it stops. -/
  | notModelled (mnemonic : String)
  deriving DecidableEq, Repr

/-! ## Station controller (08_station_life_cycle.md) -/

/-- A range record as software writes it: three 16-bit words (R3, R155). -/
structure RangeRecord where
  first : Word
  last : Word
  home : Word
  deriving DecidableEq, Repr

/-- The configuration block, each field as written (R155). -/
structure ConfigBlock where
  epoch : Word
  presenceInterval : Word
  silenceLimit : Word
  windowWaitLimit : Word
  rangeCount : Word
  ranges : Vector RangeRecord 8
  deriving DecidableEq, Repr

/-- One range of the active map (R3, R4). -/
structure MapRange where
  first : LockId
  last : LockId
  home : Station
  deriving DecidableEq, Repr

/-- The station controller's state. -/
structure StationController where
  state : StationState
  number : Station
  rateClass : BitVec 2
  resetCause : ResetCause
  lastStartRefusal : StartRefusal
  duplicateSeen : Bool
  mapActive : Bool
  cfg : ConfigBlock
  activeMap : List MapRange
  digest : Word
  previousEpoch : Option Word
  /-- Listen timer, in ms, as started (log 3). -/
  listenTimer : Option Nat
  /-- Leaving timer, in ms, as started (log 3). -/
  leavingTimer : Option Nat
  /-- The RST- pin is asserted (R165). -/
  resetAsserted : Bool
  deriving DecidableEq, Repr

/-! ## Peer roster (07_the_peer_roster.md) -/

/-- A peer record (R136). -/
structure PeerRecord where
  state : PeerState
  epoch : Option Word
  /-- Silence timer, in ms, as last started (log 3). -/
  silenceTimer : Option Nat
  syncOut : Bool
  syncIn : Bool
  deriving DecidableEq, Repr

/-- The roster's state. The own number's record is inert (log 23). -/
structure PeerRoster where
  peers : Vector PeerRecord 16
  /-- Presence timer, in ms, as last started (log 3). -/
  presenceTimer : Option Nat
  fresh : Bool
  deriving DecidableEq, Repr

/-! ## Home controller (02_the_home_table.md) -/

/-- A holder record: station and tag (R12). -/
structure Holder where
  station : Station
  tag : Tag
  deriving DecidableEq, Repr

/-- A waiter record: station, tag and mode (R12). -/
structure Waiter where
  station : Station
  tag : Tag
  mode : LockMode
  deriving DecidableEq, Repr

/-- A home table entry (R12). The holders are a set, kept in ascending station order (log 22). -/
structure HomeEntry where
  lock : LockId
  state : LockState
  holders : List Holder
  waiters : List Waiter
  generation : Word
  value : List Byte
  deriving DecidableEq, Repr

/-- An inbound request: the source and the body of its kind (R19). -/
structure InboundRequest where
  source : Station
  body : RequestBody
  deriving DecidableEq, Repr

/-- The walk state: the station walked and the lock ID position (R34); the position after lock 4095 is
4096. -/
structure Walk where
  station : Station
  position : Nat
  deriving DecidableEq, Repr

/-- The home controller's state. The table is kept in ascending lock ID order and the pending-purge set in
ascending station order (log 22). -/
structure HomeController where
  table : List HomeEntry
  inbound : List InboundRequest
  pendingPurge : List Station
  walk : Option Walk
  deriving DecidableEq, Repr

/-! ## Request controller (03_the_request_table_and_completion_queue.md) -/

/-- The generation and value copy a slot holds in HELD and RELEASING (R44). -/
structure Hold where
  generation : Word
  value : List Byte
  deriving DecidableEq, Repr

/-- A slot that is not FREE (R44). -/
structure SlotRecord where
  state : SlotState
  lock : LockId
  mode : LockMode
  origin : Origin
  home : Station
  /-- Timeout remaining, in ms, as started (log 3). -/
  timer : Option Nat
  cancelCause : CancelCause
  mark : Bool
  hold : Option Hold
  recordsPending : Nat
  /-- The RELEASE or CANCEL frame still to be appended (R50). -/
  owed : Option RequestBody
  deriving DecidableEq, Repr

/-- A completion record (R72). -/
structure CompletionRecord where
  kind : CompletionKind
  reason : Reason
  origin : Origin
  slot : Tag
  lock : LockId
  mode : LockMode
  generation : Word
  value : List Byte
  deriving DecidableEq, Repr

/-- The request controller's state: the request table, `none` being a FREE slot (log 22), and the completion
queue, oldest first. -/
structure RequestController where
  slots : Vector (Option SlotRecord) 32
  completions : List CompletionRecord
  deriving DecidableEq, Repr

/-! ## Frame delivery unit (06_frame_delivery.md) -/

/-- An entry of the outbound request queue (R113). -/
structure OutRequest where
  destination : Station
  body : RequestBody
  deriving DecidableEq, Repr

/-- An entry of the outbound response queue (R114). -/
structure OutResponse where
  destination : Station
  body : ResponseBody
  deriving DecidableEq, Repr

/-- The started frame of a destination (R117): the oldest entry for it in the named queue (log 19), with the
sequence number and SYNC flag fixed at its first attempt. -/
structure StartedFrame where
  queue : OutQueue
  sequence : Byte
  sync : Bool
  deriving DecidableEq, Repr

/-- A send record (R116). -/
structure SendRecord where
  nextSequence : Byte
  started : Option StartedFrame
  attempts : Nat
  lastAnswer : LastAnswer
  /-- Hold-off, in bit times, as started (log 3). -/
  holdOff : Option Nat
  deriving DecidableEq, Repr

/-- A receive record (R130). -/
structure ReceiveRecord where
  sequence : Byte
  sync : Bool
  deriving DecidableEq, Repr

/-- The frame delivery unit's state. The own number's records are inert (log 23). -/
structure FrameDelivery where
  requests : List OutRequest
  responses : List OutResponse
  presenceDue : Bool
  leaveDue : Bool
  send : Vector SendRecord 16
  receive : Vector (Option ReceiveRecord) 16
  deriving DecidableEq, Repr

/-! ## Bus access unit (05_medium_access.md) -/

/-- What an attempt in flight sends (R119). -/
inductive AttemptKind where
  | presence
  | leave
  | addressed (destination : Station) (queue : OutQueue)
  deriving DecidableEq, Repr

/-- How far an attempt has come (R106, R110). -/
inductive AttemptPhase where
  | sending
  | sentWhole
  | collision
  deriving DecidableEq, Repr

/-- The attempt in flight (R110). -/
structure Attempt where
  kind : AttemptKind
  frame : Frame
  phase : AttemptPhase
  /-- The result of the first ACK that answered it (R109). -/
  answer : Option AckResult
  /-- Its frame has left its queue, or LEAVING has begun or ended, so the outcome will be ignored (R125, R134,
  R163; log 19, log 28). -/
  ignored : Bool
  deriving DecidableEq, Repr

/-- The bus access unit's state. -/
structure BusAccess where
  linePhase : LinePhase
  positionCounter : Option Nat
  ownPosition : Option Nat
  reference : Option Station
  attempt : Option Attempt
  ackDue : Option Frame
  ackSending : Option Frame
  /-- A transmission that began inside the open window is in progress (R99, R100). -/
  windowTransmission : Bool
  deriving DecidableEq, Repr

/-! ## Local port (09_the_local_port.md, 10_window_access.md) -/

/-- The window-access state (R186). -/
inductive WindowAccess where
  | idle
  /-- The stalled read's slot, and its wait-limit timer in units of 100 µs, as started (log 3). -/
  | stalled (slot : Tag) (limit : Nat)
  deriving DecidableEq, Repr

/-- The last window grant (R184, R188). -/
structure WindowGrant where
  generation : Word
  value : List Byte
  deriving DecidableEq, Repr

/-- The local port's own state (R169). -/
structure LocalPort where
  /-- Staging words 030h to 03Dh (R172). -/
  staging : Vector Word 14
  result : SubmissionResult
  interruptEnable : Bool
  probeLock : Word
  window : WindowAccess
  lastGrant : WindowGrant
  /-- The word a read drives on WD15 to WD0, while it does (R167, R187; log 9). -/
  dataOut : Option Word
  deriving DecidableEq, Repr

/-! ## The station -/

/-- The station: its seven blocks, and the queue of commands waiting, first in, first out. -/
structure State where
  ctl : StationController
  roster : PeerRoster
  home : HomeController
  req : RequestController
  dlv : FrameDelivery
  bus : BusAccess
  port : LocalPort
  pending : List Instr
  deriving DecidableEq, Repr

/-! ## Reset values -/

/-- The configuration block after either reset (R155). -/
def ConfigBlock.zero : ConfigBlock :=
  { epoch := 0#16, presenceInterval := 0#16, silenceLimit := 0#16, windowWaitLimit := 0#16,
    rangeCount := 0#16, ranges := Vector.replicate 8 { first := 0#16, last := 0#16, home := 0#16 } }

/-- The station controller after a power-on reset (R164). -/
def StationController.powerOn (straps : Straps) : StationController :=
  { state := .config, number := straps.stationNumber, rateClass := straps.rateClass,
    resetCause := .powerOn, lastStartRefusal := .none, duplicateSeen := false, mapActive := false,
    cfg := ConfigBlock.zero, activeMap := [], digest := 0#16, previousEpoch := none,
    listenTimer := none, leavingTimer := none, resetAsserted := false }

/-- A peer record after either reset and after a successful START (R152). -/
def PeerRecord.unheard : PeerRecord :=
  { state := .unknown, epoch := none, silenceTimer := none, syncOut := true, syncIn := true }

/-- The roster after either reset and after a successful START (R152). -/
def PeerRoster.unheard : PeerRoster :=
  { peers := Vector.replicate 16 PeerRecord.unheard, presenceTimer := none, fresh := false }

/-- The home controller after either reset and after LEAVE (R41, R42). -/
def HomeController.empty : HomeController :=
  { table := [], inbound := [], pendingPurge := [], walk := none }

/-- The request controller after either reset (R78). -/
def RequestController.empty : RequestController :=
  { slots := Vector.replicate 32 none, completions := [] }

/-- A send record with a given next sequence number and nothing else (R135). -/
def SendRecord.clear (next : Byte) : SendRecord :=
  { nextSequence := next, started := none, attempts := 0, lastAnswer := .none, holdOff := none }

/-- The delivery unit after either reset (R135). -/
def FrameDelivery.empty : FrameDelivery :=
  { requests := [], responses := [], presenceDue := false, leaveDue := false,
    send := Vector.replicate 16 (SendRecord.clear 0#8), receive := Vector.replicate 16 none }

/-- The bus access unit after either reset (R112). -/
def BusAccess.startUp : BusAccess :=
  { linePhase := .startUp, positionCounter := none, ownPosition := none, reference := none,
    attempt := none, ackDue := none, ackSending := none, windowTransmission := false }

/-- The local port after either reset (R169). -/
def LocalPort.reset : LocalPort :=
  { staging := Vector.replicate 14 0#16, result := .none, interruptEnable := false, probeLock := 0#16,
    window := .idle, lastGrant := { generation := 0#16, value := [] }, dataOut := none }

/-- The station right after a power-on reset with given straps (R164), with a given command queue. -/
def State.powerOn (straps : Straps) (pending : List Instr) : State :=
  { ctl := StationController.powerOn straps, roster := PeerRoster.unheard, home := HomeController.empty,
    req := RequestController.empty, dlv := FrameDelivery.empty, bus := BusAccess.startUp,
    port := LocalPort.reset, pending := pending }

/-- The machine right after reset: a power-on reset whose straps read station number 0 and rate class 0
(DESIGN CHOICE, log 1; unsafe), with no command waiting. -/
def State.reset : State := State.powerOn { stationNumber := 0, rateClass := 0#2 } []

end Sys2Proof.Machine
end

