-- ==== Sys2Proof/Machine/Ops.lean ====
section
/-! DEFINITION. Access to the state: one named update per block, and the named reads and writes of the
vectors inside the blocks. Every other operation goes through these. -/

namespace Sys2Proof.Machine

/-- The outcome of a command. -/
abbrev Result := Host.Outcome State Fault Refusal

namespace State

/-! ## One update per block -/

/-- Replace the station controller's state. -/
def withCtl (s : State) (x : StationController) : State := { s with ctl := x }
/-- Replace the roster's state. -/
def withRoster (s : State) (x : PeerRoster) : State := { s with roster := x }
/-- Replace the home controller's state. -/
def withHome (s : State) (x : HomeController) : State := { s with home := x }
/-- Replace the request controller's state. -/
def withReq (s : State) (x : RequestController) : State := { s with req := x }
/-- Replace the delivery unit's state. -/
def withDlv (s : State) (x : FrameDelivery) : State := { s with dlv := x }
/-- Replace the bus access unit's state. -/
def withBus (s : State) (x : BusAccess) : State := { s with bus := x }
/-- Replace the local port's state. -/
def withPort (s : State) (x : LocalPort) : State := { s with port := x }
/-- Replace the command queue. -/
def withPending (s : State) (x : List Instr) : State := { s with pending := x }

/-! ## Reads -/

/-- The own station number (R154). -/
def own (s : State) : Station := s.ctl.number

/-- The roster record of a station. -/
def peer (s : State) (p : Station) : PeerRecord := s.roster.peers.get p

/-- A slot of the request table; none when FREE. -/
def slot (s : State) (t : Tag) : Option SlotRecord := s.req.slots.get t

/-- The send record of a destination. -/
def sendRecord (s : State) (p : Station) : SendRecord := s.dlv.send.get p

/-- The receive record of a sender. -/
def receiveRecord (s : State) (p : Station) : Option ReceiveRecord := s.dlv.receive.get p

/-- A staging word, 0 for 030h to 13 for 03Dh (R172). -/
def staged (s : State) (i : Fin 14) : Word := s.port.staging.get i

/-! ## Writes -/

/-- Replace one roster record. -/
def setPeer (s : State) (p : Station) (r : PeerRecord) : State :=
  s.withRoster { s.roster with peers := vset s.roster.peers p r }

/-- Rewrite the record of every peer; the own number's record is no peer record (R136). -/
def everyPeer (s : State) (f : PeerRecord → PeerRecord) : State :=
  s.withRoster { s.roster with
    peers := vmapIdx (fun p r => if p = s.own then r else f r) s.roster.peers }

/-- Replace one slot; none makes it FREE. -/
def setSlot (s : State) (t : Tag) (r : Option SlotRecord) : State :=
  s.withReq { s.req with slots := vset s.req.slots t r }

/-- Replace one send record. -/
def setSend (s : State) (p : Station) (r : SendRecord) : State :=
  s.withDlv { s.dlv with send := vset s.dlv.send p r }

/-- Replace one receive record. -/
def setReceive (s : State) (p : Station) (r : Option ReceiveRecord) : State :=
  s.withDlv { s.dlv with receive := vset s.dlv.receive p r }

/-- Append request frames at the tail of the outbound request queue (R113). -/
def appendRequest (s : State) (e : OutRequest) : State :=
  s.withDlv { s.dlv with requests := s.dlv.requests ++ [e] }

/-- Append a response frame at the tail of the outbound response queue (R114). -/
def appendResponse (s : State) (e : OutResponse) : State :=
  s.withDlv { s.dlv with responses := s.dlv.responses ++ [e] }

/-- Append completion records at the tail of the completion queue (R73). -/
def postRecords (s : State) (rs : List CompletionRecord) : State :=
  s.withReq { s.req with completions := s.req.completions ++ rs }

/-- Store the submission result (R173). -/
def setResult (s : State) (r : SubmissionResult) : State :=
  s.withPort { s.port with result := r }

/-- Set presence-due; in LEAVING it stays clear (R115). -/
def setPresenceDue (s : State) : State :=
  if s.ctl.state = .leaving then s else s.withDlv { s.dlv with presenceDue := true }

end State

/-! ## When a command is taken -/

/-- While RST- is asserted the station holds its reset values: no event of it takes place (R165; log 7). -/
def running (s : State) (f : State → State) : State :=
  if s.ctl.resetAsserted then s else f s

/-- A port cycle is taken when RST- is not asserted and no read is stalled (R167; log 11). A cycle that
begins finds the data of the cycle before it released (R167; log 9). -/
def portCycle (s : State) (f : State → State) : State :=
  if s.ctl.resetAsserted = true ∨ s.port.window ≠ .idle then s
  else f (s.withPort { s.port with dataOut := none })

/-- An event takes place only under its condition; otherwise nothing changes (log 5). -/
def onlyIf (c : Prop) [Decidable c] (s : State) (f : State → State) : State :=
  if c then f s else s

end Sys2Proof.Machine
end

