-- ==== Sys2Proof/Machine/HomeMap.lean ====
section
/-! DEFINITION. The home map: the checks START makes of it (R3), the lookup (R4) and the digest (R8). -/

namespace Sys2Proof.Machine

/-- The selected range records: records 0 to n - 1 for a range count of n (R3). -/
def ConfigBlock.selected (c : ConfigBlock) : List RangeRecord :=
  c.ranges.toList.take c.rangeCount.toNat

/-- One record's own checks (R3): first not above last, last at most 4095, home at most 15. -/
def RangeRecord.ok (r : RangeRecord) : Bool :=
  decide (r.first.toNat ≤ r.last.toNat) && decide (r.last.toNat ≤ Config.maxLockId) && decide (r.home.toNat ≤ 15)

/-- Two ranges share no lock ID. -/
def RangeRecord.disjoint (a b : RangeRecord) : Bool :=
  decide (a.last.toNat < b.first.toNat) || decide (b.last.toNat < a.first.toNat)

/-- Every two ranges of a list share no lock ID. -/
def rangesDisjoint : List RangeRecord → Bool
  | [] => true
  | r :: rs => rs.all (r.disjoint ·) && rangesDisjoint rs

/-- The map checks of START (R3, check 3 of R156). -/
def ConfigBlock.mapOk (c : ConfigBlock) : Bool :=
  decide (1 ≤ c.rangeCount.toNat) && decide (c.rangeCount.toNat ≤ 8) &&
    c.selected.all RangeRecord.ok && rangesDisjoint c.selected

/-- A checked record as a range of the active map. -/
def RangeRecord.toRange (r : RangeRecord) : MapRange :=
  { first := r.first.setWidth 12, last := r.last.setWidth 12, home := stationOfNat r.home.toNat }

/-- The active map a successful START takes from the block (R158). -/
def ConfigBlock.toMap (c : ConfigBlock) : List MapRange := c.selected.map RangeRecord.toRange

/-- A lock ID lies in a range. -/
def MapRange.covers (r : MapRange) (l : LockId) : Bool :=
  decide (r.first.toNat ≤ l.toNat) && decide (l.toNat ≤ r.last.toNat)

/-- The home of a lock by the active map; none when unmapped (R4). -/
def homeOf (m : List MapRange) (l : LockId) : Option Station :=
  (m.find? (·.covers l)).map MapRange.home

/-- The bytes of one range in the digest: three words, each most significant byte first (R8). -/
def MapRange.digestBytes (r : MapRange) : List Byte :=
  wordBytes (lockWord r.first) ++ wordBytes (lockWord r.last) ++ wordBytes (stationWord r.home)

/-- Insert a range by its first lock ID. -/
def insertRange (r : MapRange) : List MapRange → List MapRange
  | [] => [r]
  | x :: xs => if r.first.toNat ≤ x.first.toNat then r :: x :: xs else x :: insertRange r xs

/-- The ranges in ascending order of their first lock IDs. -/
def sortRanges : List MapRange → List MapRange
  | [] => []
  | r :: rs => insertRange r (sortRanges rs)

/-- The map digest: the CRC over the ranges in ascending order (R8). -/
def mapDigest (m : List MapRange) : Word := crc16 ((sortRanges m).flatMap MapRange.digestBytes)

end Sys2Proof.Machine
end

