-- ==== Sys2Proof/Machine/HomeTable.lean ====
section
/-! DEFINITION. The home table: its entries and waiter pool (R12 to R18), what each request does to it (R23 to
R32), and what a walk step does to one entry (R35). All of it is about the table alone; the routing of the
responses produced is in Machine/HomeSteps.lean. -/

namespace Sys2Proof.Machine

/-! ## The table as a keyed collection -/

/-- The entry of a lock, if any (R12). -/
def findEntry (table : List HomeEntry) (l : LockId) : Option HomeEntry :=
  table.find? (fun e => decide (e.lock = l))

/-- Store an entry under its lock ID, keeping the table in ascending order (log 22). -/
def putEntry (e : HomeEntry) : List HomeEntry → List HomeEntry
  | [] => [e]
  | x :: xs =>
    if e.lock.toNat < x.lock.toNat then e :: x :: xs
    else if e.lock = x.lock then e :: xs
    else x :: putEntry e xs

/-- Free the entry of a lock. -/
def removeEntry (l : LockId) (table : List HomeEntry) : List HomeEntry :=
  table.filter (fun e => decide (e.lock ≠ l))

/-- Store what a step left of a lock's entry: none when the entry is freed (R15). -/
def storeEntry (l : LockId) (r : Option HomeEntry) (table : List HomeEntry) : List HomeEntry :=
  match r with
  | none => removeEntry l table
  | some e => putEntry e table

/-- Waiter records in use: the total length of all waiter queues (R17). -/
def waitersInUse (table : List HomeEntry) : Nat :=
  (table.map (fun e => e.waiters.length)).sum

/-- Add a holder to the set, in ascending station order (log 22). -/
def insertHolder (h : Holder) : List Holder → List Holder
  | [] => [h]
  | x :: xs => if h.station.val < x.station.val then h :: x :: xs else x :: insertHolder h xs

/-- The holder record of a waiter that is granted. -/
def Waiter.toHolder (w : Waiter) : Holder := { station := w.station, tag := w.tag }

/-- Add waiters to a set of holders. -/
def addHolders (ws : List Waiter) (hs : List Holder) : List Holder :=
  ws.foldl (fun acc w => insertHolder w.toHolder acc) hs

/-- The generation after an advance: 65535 is followed by 1 (R16). -/
def nextGeneration (g : Word) : Word := if g = 0xFFFF#16 then 1#16 else g + 1#16

/-- A station is among the holders or waiters of an entry, with any tag (R23). -/
def HomeEntry.involves (e : HomeEntry) (p : Station) : Bool :=
  e.holders.any (fun h => decide (h.station = p)) || e.waiters.any (fun w => decide (w.station = p))

/-- (p, t) is among the holders. -/
def HomeEntry.heldBy (e : HomeEntry) (p : Station) (t : Tag) : Bool :=
  e.holders.any (fun h => decide (h = { station := p, tag := t }))

/-- (p, t) is among the waiters. -/
def HomeEntry.awaitedBy (e : HomeEntry) (p : Station) (t : Tag) : Bool :=
  e.waiters.any (fun w => decide (w.station = p ∧ w.tag = t))

/-- The entry without the holder (p, t). -/
def HomeEntry.dropHolder (e : HomeEntry) (p : Station) (t : Tag) : HomeEntry :=
  { e with holders := e.holders.filter (fun h => decide (h ≠ { station := p, tag := t })) }

/-- The entry without the waiter (p, t); the records behind it close up (R18). -/
def HomeEntry.dropWaiter (e : HomeEntry) (p : Station) (t : Tag) : HomeEntry :=
  { e with waiters := e.waiters.filter (fun w => decide (¬(w.station = p ∧ w.tag = t))) }

/-! ## Grants -/

/-- The GRANT of an entry to one station and tag (R24). -/
def HomeEntry.grantTo (e : HomeEntry) (m : LockMode) (p : Station) (t : Tag) : OutResponse :=
  { destination := p, body := .grant e.lock t m e.generation e.value }

/-- The GRANTs of an entry to waiters, in queue order (R22). -/
def HomeEntry.grantsTo (e : HomeEntry) (m : LockMode) (ws : List Waiter) : List OutResponse :=
  ws.map (fun w => e.grantTo m w.station w.tag)

/-- A waiter wants SHARED. -/
def Waiter.wantsShared (w : Waiter) : Bool := decide (w.mode = .shared)

/-- Regrant of an entry whose holders are empty and whose queue is not (R28, R29): an EXCLUSIVE head alone,
or the SHARED waiters up to the first EXCLUSIVE one as one batch, at the next generation. -/
def regrant (e : HomeEntry) : HomeEntry × List OutResponse :=
  match e.waiters with
  | [] => (e, [])
  | w :: rest =>
    match w.mode with
    | .exclusive =>
      let e' := { e with
        state := .exclusive, holders := [w.toHolder], waiters := rest, generation := nextGeneration e.generation }
      (e', e'.grantsTo .exclusive [w])
    | .shared =>
      let batch := (w :: rest).takeWhile Waiter.wantsShared
      let e' := { e with
        state := .shared, holders := addHolders batch [], waiters := (w :: rest).dropWhile Waiter.wantsShared,
        generation := nextGeneration e.generation }
      (e', e'.grantsTo .shared batch)

/-- What follows the removal of a holder (R27, R28 to R30): the hold goes on, or a regrant, or FREE; a FREE
entry with an empty value is freed (R15). -/
def afterHolderLeft (e : HomeEntry) : Option HomeEntry × List OutResponse :=
  if e.holders ≠ [] then (some e, [])
  else if e.waiters ≠ [] then (some (regrant e).1, (regrant e).2)
  else if e.value = [] then (none, [])
  else (some { e with state := .free }, [])

/-- Reassessment after a waiter left the queue (R31): SHARED waiters at the head of a SHARED lock's queue
join the hold at the current generation. -/
def reassess (e : HomeEntry) : HomeEntry × List OutResponse :=
  match e.state with
  | .shared =>
    let batch := e.waiters.takeWhile Waiter.wantsShared
    ({ e with holders := addHolders batch e.holders, waiters := e.waiters.dropWhile Waiter.wantsShared },
      e.grantsTo .shared batch)
  | .free => (e, [])
  | .exclusive => (e, [])

/-! ## The steps -/

/-- What a step makes of the table, and the responses it produces, in order (R22). -/
structure HomeStep where
  table : List HomeEntry
  responses : List OutResponse
  deriving DecidableEq, Repr

/-- A step that changes nothing and answers. -/
def answerOnly (table : List HomeEntry) (p : Station) (b : ResponseBody) : HomeStep :=
  { table := table, responses := [{ destination := p, body := b }] }

/-- ACQUIRE of (p, t) for lock l in mode m and wait kind w at the home (R23 to R25). -/
def acquireStep (own : Station) (map : List MapRange) (table : List HomeEntry)
    (p : Station) (t : Tag) (l : LockId) (m : LockMode) (w : WaitKind) : HomeStep :=
  if homeOf map l ≠ some own then answerOnly table p (.deny l t .notHome) else
  match findEntry table l with
  | none =>
    if Config.homeEntries ≤ table.length then answerOnly table p (.deny l t .tableFull) else
    let e : HomeEntry :=
      { lock := l, state := m.lockState, holders := [{ station := p, tag := t }], waiters := [],
        generation := 1#16, value := [] }
    { table := putEntry e table, responses := [e.grantTo m p t] }
  | some e =>
    if e.involves p then answerOnly table p (.deny l t .duplicate) else
    if e.state = .free then
      let e' := { e with
        state := m.lockState, holders := [{ station := p, tag := t }], generation := nextGeneration e.generation }
      { table := putEntry e' table, responses := [e'.grantTo m p t] }
    else if m = .shared ∧ e.state = .shared ∧ e.waiters = [] then
      let e' := { e with holders := insertHolder { station := p, tag := t } e.holders }
      { table := putEntry e' table, responses := [e'.grantTo m p t] }
    else match w with
      | .tryOnce => answerOnly table p (.deny l t .busy)
      | .queue =>
        if Config.waiterRecords ≤ waitersInUse table then answerOnly table p (.deny l t .poolFull) else
        { table := putEntry { e with waiters := e.waiters ++ [{ station := p, tag := t, mode := m }] } table,
          responses := [] }

/-- RELEASE of (p, t) for lock l with generation g, update flag u and value v at the home (R26, R27). -/
def releaseStep (table : List HomeEntry) (p : Station) (t : Tag) (l : LockId) (g : Word) (u : Bool)
    (v : List Byte) : HomeStep :=
  match findEntry table l with
  | none => answerOnly table p (.released l t .stale)
  | some e =>
    if e.heldBy p t = false ∨ g ≠ e.generation then answerOnly table p (.released l t .stale) else
    let replaces := u = true ∧ e.state = .exclusive
    let e1 := e.dropHolder p t
    let e2 := if replaces then { e1 with value := v } else e1
    let outcome : ReleasedOutcome := if u = true ∧ e.state = .shared then .valueIgnored else .ok
    let after := afterHolderLeft e2
    { table := storeEntry l after.1 table,
      responses := { destination := p, body := .released l t outcome } :: after.2 }

/-- CANCEL of (p, t) for lock l at the home (R32). -/
def cancelStep (table : List HomeEntry) (p : Station) (t : Tag) (l : LockId) : HomeStep :=
  match findEntry table l with
  | none => answerOnly table p (.cancelled l t .notFound)
  | some e =>
    if e.awaitedBy p t then
      let after := reassess (e.dropWaiter p t)
      { table := putEntry after.1 table,
        responses := { destination := p, body := .cancelled l t .withdrawn } :: after.2 }
    else if e.heldBy p t then
      let after := afterHolderLeft (e.dropHolder p t)
      { table := storeEntry l after.1 table,
        responses := { destination := p, body := .cancelled l t .afterGrant } :: after.2 }
    else answerOnly table p (.cancelled l t .notFound)

/-- The entry a walk step visits: the lowest lock ID at or above the position (R35). -/
def nextEntry (table : List HomeEntry) (position : Nat) : Option HomeEntry :=
  table.find? (fun e => decide (position ≤ e.lock.toNat))

/-- The visit of one entry for the walk's station p (R35): p leaves as waiter, with a reassessment, or as
holder, with a regrant or FREE; no answer goes to p. -/
def visitStep (table : List HomeEntry) (p : Station) (e : HomeEntry) : HomeStep :=
  match e.waiters.find? (fun w => decide (w.station = p)) with
  | some w =>
    let after := reassess (e.dropWaiter p w.tag)
    { table := putEntry after.1 table, responses := after.2 }
  | none =>
    match e.holders.find? (fun h => decide (h.station = p)) with
    | some h =>
      let after := afterHolderLeft (e.dropHolder p h.tag)
      { table := storeEntry e.lock after.1 table, responses := after.2 }
    | none => { table := table, responses := [] }

/-! ## The pending-purge set and the walk -/

/-- Add a station to the pending-purge set, in ascending order, once (R33; log 22). -/
def insertStation (p : Station) : List Station → List Station
  | [] => [p]
  | x :: xs =>
    if p.val < x.val then p :: x :: xs else if p = x then x :: xs else x :: insertStation p xs

/-- A walk has an entry left to visit. -/
def Walk.goesOn (w : Walk) (table : List HomeEntry) : Bool := (nextEntry table w.position).isSome

/-- End a walk that has no entry left and begin the next one (R34, R36): the lowest pending station, from
lock ID 0. Over an empty table every walk ends as it begins (log 20). -/
def settleWalk (h : HomeController) : HomeController :=
  match h.walk with
  | some w =>
    if w.goesOn h.table then h
    else match h.table, h.pendingPurge with
      | [], _ => { h with walk := none, pendingPurge := [] }
      | _ :: _, [] => { h with walk := none }
      | _ :: _, p :: ps => { h with walk := some { station := p, position := 0 }, pendingPurge := ps }
  | none =>
    match h.table, h.pendingPurge with
    | [], _ => { h with pendingPurge := [] }
    | _ :: _, [] => h
    | _ :: _, p :: ps => { h with walk := some { station := p, position := 0 }, pendingPurge := ps }

/-- The home controller's part of a purge of peer p (R33): p's queued requests go; p joins the pending-purge
set unless it is pending or being walked; outside ONLINE the set is left empty (R40). -/
def HomeController.purge (h : HomeController) (online : Bool) (p : Station) : HomeController :=
  let h1 := { h with inbound := h.inbound.filter (fun r => decide (r.source ≠ p)) }
  if online = false then h1
  else if p ∈ h.pendingPurge ∨ h.walk.any (fun w => decide (w.station = p)) then h1
  else settleWalk { h1 with pendingPurge := insertStation p h1.pendingPurge }

end Sys2Proof.Machine
end

