-- ==== Sys2Proof/Machine/Operands.lean ====
section
/-! DEFINITION. The operands a command reads from the port's words: the staging words (R172, R194) and the
timing fields of the configuration block (R155). The whole 16-bit value of each is judged. -/

namespace Sys2Proof.Machine

namespace State

/-- The staged lock ID, 030h: none above 4095 (R1). -/
def stagedLock (s : State) : Option LockId :=
  if (s.staged 0).toNat ≤ Config.maxLockId then some ((s.staged 0).setWidth 12) else none

/-- The staged mode, 031h. -/
def stagedMode (s : State) : Option LockMode := modeOfCode (s.staged 1).toNat

/-- The staged wait kind, 032h. -/
def stagedWait (s : State) : Option WaitKind := waitOfCode (s.staged 2).toNat

/-- The staged timeout, 033h: 0 for none, else ms (R47). -/
def stagedTimeout (s : State) : Option Nat :=
  if s.staged 3 = 0#16 then none else some (s.staged 3).toNat

/-- The staged value, 036h to 03Dh: byte 2k in the high half of word k (R194). -/
def stagedBytes (s : State) : List Byte :=
  [s.staged 6, s.staged 7, s.staged 8, s.staged 9, s.staged 10, s.staged 11, s.staged 12, s.staged 13].flatMap
    wordBytes

/-- The update flag and value of a RELEASE: none when the update word is neither 0 nor 1, or when it is 1
and the length exceeds 16 (R175); with the flag clear, length and value are not read (R172). -/
def stagedUpdate (s : State) : Option (Bool × List Byte) :=
  if s.staged 4 = 0#16 then some (false, [])
  else if s.staged 4 = 1#16 then
    if (s.staged 5).toNat ≤ Config.valueBytes then some (true, s.stagedBytes.take (s.staged 5).toNat) else none
  else none

/-- The presence interval, in ms. -/
def presenceInterval (s : State) : Nat := s.ctl.cfg.presenceInterval.toNat

/-- The silence length and listen limit: silence limit times presence interval, in ms (R148, R158). -/
def silenceLength (s : State) : Nat := s.ctl.cfg.silenceLimit.toNat * s.ctl.cfg.presenceInterval.toNat

end State

end Sys2Proof.Machine
end

