-- ==== Sys2Proof/Machine/Requests.lean ====
section
/-! DEFINITION. The request controller (03_the_request_table_and_completion_queue.md): opening a slot, its
frames, responses, releases, cancels, purges and records; with the delivery unit's withdrawal (R127) and the
end of a stalled read (R187), which these rules call. -/

namespace Sys2Proof.Machine

/-! ## Frames of a slot in the outbound request queue -/

/-- A frame of the slot stands in a queue (R50). -/
def frameStands (t : Tag) (q : List OutRequest) : Bool := q.any (fun e => decide (e.body.tag = t))

/-- The oldest frame to a destination. -/
def oldestRequestTo (d : Station) (q : List OutRequest) : Option OutRequest :=
  q.find? (fun e => decide (e.destination = d))

/-- The oldest response to a destination. -/
def oldestResponseTo (d : Station) (q : List OutResponse) : Option OutResponse :=
  q.find? (fun e => decide (e.destination = d))

/-- The ACQUIRE frame of a slot in a queue. -/
def acquireFrameOf (t : Tag) (q : List OutRequest) : Option OutRequest :=
  q.find? (fun e => decide (e.body.tag = t ∧ e.body.isAcquire = true))

namespace State

/-- The entry is the started frame of its destination: the request queue's oldest entry for it (log 19). -/
def requestIsStarted (s : State) (e : OutRequest) : Bool :=
  match (s.sendRecord e.destination).started with
  | some f => decide (f.queue = .request ∧ oldestRequestTo e.destination s.dlv.requests = some e)
  | none => false

/-- An attempt of the destination's started request frame is in flight. -/
def requestInFlight (s : State) (d : Station) : Bool :=
  match s.bus.attempt with
  | some a => decide (a.kind = .addressed d .request ∧ a.ignored = false)
  | none => false

/-- An ACQUIRE frame standing in the queue is withdrawable: no attempt of it in flight, and not started or
last answered BUSY or UNHEARD (R63, R127). -/
def withdrawable (s : State) (e : OutRequest) : Bool :=
  !s.requestIsStarted e ||
    (!s.requestInFlight e.destination && decide ((s.sendRecord e.destination).lastAnswer ≠ .none))

/-- Withdraw the frame of a slot (R127): it leaves the queue; if it was started, the started frame becomes
absent and count and last answer return to 0 and none. Hold-off and next sequence number stay. -/
def withdraw (s : State) (t : Tag) (e : OutRequest) : State :=
  let r := s.sendRecord e.destination
  let s1 :=
    if s.requestIsStarted e then
      s.setSend e.destination { r with started := none, attempts := 0, lastAnswer := .none }
    else s
  s1.withDlv { s1.dlv with requests := s1.dlv.requests.filter (fun x => decide (x.body.tag ≠ t)) }

end State

/-! ## Records and the end of a slot -/

/-- The slot is open: any state but DONE (R45); a FREE slot has no record. -/
def SlotRecord.isOpen (r : SlotRecord) : Bool := decide (r.state ≠ .done)

/-- The record a slot posts (R73). -/
def SlotRecord.toRecord (r : SlotRecord) (t : Tag) (k : CompletionKind) (why : Reason) (g : Word)
    (v : List Byte) : CompletionRecord :=
  { kind := k, reason := why, origin := r.origin, slot := t, lock := r.lock, mode := r.mode,
    generation := g, value := v }

/-- The generation a record of the slot carries once it was HELD: the slot's, else 0 (R73). -/
def SlotRecord.heldGeneration (r : SlotRecord) : Word :=
  match r.hold with
  | some h => h.generation
  | none => 0#16

/-- R77: a slot that finishes is FREE when no record is pending and no frame of it stands, else DONE; it
keeps neither timer, mark, hold nor owed frame (DESIGN CHOICE for the mark, log 21; safe). -/
def SlotRecord.finished (r : SlotRecord) (stands : Bool) : Option SlotRecord :=
  if r.recordsPending = 0 ∧ stands = false then none
  else some { r with state := .done, timer := none, mark := false, hold := none, owed := none }

/-- R77 for a DONE slot after a pop or the departure of its frame; any other slot stays. -/
def SlotRecord.settled (r : SlotRecord) (stands : Bool) : Option SlotRecord :=
  if r.state = .done ∧ r.recordsPending = 0 ∧ stands = false then none else some r

/-- A slot with one more record pending, or the same. -/
def SlotRecord.counting (r : SlotRecord) (rec : Option CompletionRecord) : SlotRecord :=
  { r with recordsPending := r.recordsPending + rec.toList.length }

namespace State

/-- Finish a slot, posting the record if there is one (R73, R77). -/
def finishSlot (s : State) (t : Tag) (r : SlotRecord) (rec : Option CompletionRecord) : State :=
  (s.postRecords rec.toList).setSlot t ((r.counting rec).finished (frameStands t s.dlv.requests))

/-- Post a record of a slot that stays in the table (R73). -/
def postAndKeep (s : State) (t : Tag) (r : SlotRecord) (rec : CompletionRecord) : State :=
  (s.postRecords [rec]).setSlot t (some (r.counting (some rec)))

/-- Send a frame of a slot: appended at once, or owed while its previous frame still stands (R50). -/
def sendOrOwe (s : State) (t : Tag) (r : SlotRecord) (b : RequestBody) : State :=
  if frameStands t s.dlv.requests then s.setSlot t (some { r with owed := some b })
  else (s.setSlot t (some r)).appendRequest { destination := r.home, body := b }

end State

/-! ## The stalled read (R186, R187) -/

/-- Outcomes of a window result word (section 11.3): completion kind codes, and 80h plus the submission
result code for an immediate refusal. -/
def resultWord (outcome : Byte) (detail : Reason) : Word := wordOf outcome detail.code

/-- The outcome byte of an immediate refusal: 80h plus the submission result code. -/
def refusalByte (r : SubmissionResult) : Byte := 0x80#8 + r.code

namespace State

/-- The stalled read is this slot's. -/
def readStalledFor (s : State) (t : Tag) : Bool :=
  match s.port.window with
  | .stalled u _ => decide (u = t)
  | .idle => false

/-- End the stalled read of a slot with a result word: the word is driven, RDY rises (R187). -/
def endRead (s : State) (t : Tag) (w : Word) : State :=
  if s.readStalledFor t then s.withPort { s.port with window := .idle, dataOut := some w } else s

/-- A window read that ends GRANTED sets the last window grant words in the same event (R188). -/
def endReadGranted (s : State) (t : Tag) (g : Word) (v : List Byte) : State :=
  if s.readStalledFor t then
    (s.withPort { s.port with lastGrant := { generation := g, value := v } }).endRead t
      (resultWord CompletionKind.granted.code .none)
  else s

/-! ## Responses (R53 to R58) -/

/-- A GRANT finds its slot WAITING, or PENDING with a clear mark (R54, R58). -/
def applyGrant (s : State) (t : Tag) (r : SlotRecord) (g : Word) (v : List Byte) : State :=
  let r1 := { r with state := SlotState.held, timer := none, hold := some { generation := g, value := v } }
  match r.origin with
  | .command => s.postAndKeep t r1 (r1.toRecord t .granted .none g v)
  | .window => (s.setSlot t (some r1)).endReadGranted t g v

/-- A DENY finds its slot WAITING, or PENDING with a clear mark (R55, R58). -/
def applyDeny (s : State) (t : Tag) (r : SlotRecord) (why : DenyReason) : State :=
  match r.origin with
  | .command => s.finishSlot t r (some (r.toRecord t .denied (.deny why) 0#16 []))
  | .window => (s.finishSlot t r none).endRead t (resultWord CompletionKind.denied.code (.deny why))

/-- A GRANT or DENY finds its slot PENDING with the mark set: CANCELLING with the CANCEL owed (R58, R64);
the response is then discarded. The mark clears here too, which R64 says of an acceptance only (DESIGN CHOICE,
log 29; safe). -/
def applyToMarked (s : State) (t : Tag) (r : SlotRecord) : State :=
  s.sendOrOwe t { r with state := .cancelling, mark := false } (.cancel r.lock t)

/-- The record a RELEASED response makes a slot post, by its outcome and the slot's origin (R56). -/
def releasedRecord (t : Tag) (r : SlotRecord) (o : ReleasedOutcome) : Option CompletionRecord :=
  match o, r.origin with
  | .ok, .command => some (r.toRecord t .released (.released .ok) r.heldGeneration [])
  | .ok, .window => none
  | .valueIgnored, _ => some (r.toRecord t .released (.released .valueIgnored) r.heldGeneration [])
  | .stale, _ => some (r.toRecord t .releaseRefused (.released .stale) r.heldGeneration [])

/-- The record a cancel ends with, by its cause (R57, R61): none for WINDOW_LIMIT. -/
def cancelRecord (t : Tag) (r : SlotRecord) (why : Reason) : Option CompletionRecord :=
  match r.cancelCause with
  | .software => some (r.toRecord t .cancelled why 0#16 [])
  | .timeout => some (r.toRecord t .timeout why 0#16 [])
  | .windowLimit => none
  | .none => none

/-- A response reaches the request controller from a source station (R53): it is matched by tag, lock ID and
home, and applied by the state of its slot; otherwise it is an orphan and changes nothing. -/
def applyResponse (s : State) (src : Station) (b : ResponseBody) : State :=
  match s.slot b.tag with
  | none => s
  | some r =>
    if r.lock ≠ b.lock ∨ r.home ≠ src then s else
    match b with
    | .grant _ t _ g v =>
      match r.state with
      | .waiting => s.applyGrant t r g v
      | .pending => if r.mark then s.applyToMarked t r else s.applyGrant t r g v
      | .held => s
      | .releasing => s
      | .cancelling => s
      | .done => s
    | .deny _ t why =>
      match r.state with
      | .waiting => s.applyDeny t r why
      | .pending => if r.mark then s.applyToMarked t r else s.applyDeny t r why
      | .held => s
      | .releasing => s
      | .cancelling => s
      | .done => s
    | .released _ t o =>
      match r.state with
      | .releasing => s.finishSlot t r (releasedRecord t r o)
      | .pending => s
      | .waiting => s
      | .held => s
      | .cancelling => s
      | .done => s
    | .cancelled _ t o =>
      match r.state with
      | .cancelling => s.finishSlot t r (cancelRecord t r (.cancelled o))
      | .pending => s
      | .waiting => s
      | .held => s
      | .releasing => s
      | .done => s

/-! ## Reports of the delivery unit -/

/-- An owed frame is appended in the event in which the previous frame leaves (R50). -/
def sendOwed (s : State) (t : Tag) (r : SlotRecord) : State :=
  match r.owed with
  | none => s
  | some b => (s.setSlot t (some { r with owed := none })).appendRequest { destination := r.home, body := b }

/-- A frame of a slot has left the queue, accepted or moved by loopback (R51, R64, R50, R77). The frame is
no longer in the queue when this is called. -/
def requestDeparted (s : State) (t : Tag) (isAcquire : Bool) : State :=
  match s.slot t with
  | none => s
  | some r =>
    match r.state with
    | .pending =>
      if isAcquire = false then s
      else if r.mark then s.sendOrOwe t { r with state := .cancelling, mark := false } (.cancel r.lock t)
      else s.setSlot t (some { r with state := .waiting })
    | .done => s.setSlot t (r.settled (frameStands t s.dlv.requests))
    | .waiting => s.sendOwed t r
    | .held => s.sendOwed t r
    | .releasing => s.sendOwed t r
    | .cancelling => s.sendOwed t r

/-- Withdraw the ACQUIRE frame of a slot and finish the slot with UNSENT by its cause (R61, R64, R127). -/
def withdrawAndFinish (s : State) (t : Tag) (r : SlotRecord) (e : OutRequest) : State :=
  (s.withdraw t e).finishSlot t r (cancelRecord t r .unsent)

/-- An attempt of an ACQUIRE frame was answered BUSY or UNHEARD (R52, R64): with the mark set the frame,
now withdrawable, is withdrawn and the slot finishes UNSENT. -/
def acquireNotTaken (s : State) (t : Tag) : State :=
  match s.slot t, acquireFrameOf t s.dlv.requests with
  | some r, some e => if r.state = .pending ∧ r.mark = true then s.withdrawAndFinish t r e else s
  | some _, none => s
  | none, _ => s

/-! ## Cancellation (R61) -/

/-- A cancel of a slot with a cause (R61, R63): made only in PENDING with a clear mark and in WAITING. -/
def cancelSlot (s : State) (t : Tag) (cause : CancelCause) : State :=
  match s.slot t with
  | none => s
  | some r =>
    let r1 := { r with cancelCause := cause, timer := none }
    match r.state with
    | .pending =>
      if r.mark then s else
      match acquireFrameOf t s.dlv.requests with
      | some e => if s.withdrawable e then s.withdrawAndFinish t r1 e else s.setSlot t (some { r1 with mark := true })
      | none => s.setSlot t (some { r1 with mark := true })
    | .waiting => s.sendOrOwe t { r1 with state := .cancelling } (.cancel r.lock t)
    | .held => s
    | .releasing => s
    | .cancelling => s
    | .done => s

/-! ## Opening and releasing -/

/-- The lowest-numbered FREE slot (R46). -/
def lowestFree (s : State) : Option Tag := (List.finRange 32).find? (fun t => (s.slot t).isNone)

/-- The slot other than FREE for a lock ID (R46). -/
def slotForLock (s : State) (l : LockId) : Option Tag :=
  (List.finRange 32).find? (fun t =>
    match s.slot t with
    | some r => decide (r.lock = l)
    | none => false)

/-- Open a slot and append its ACQUIRE frame (R47, R48). -/
def openSlot (s : State) (t : Tag) (l : LockId) (m : LockMode) (w : WaitKind) (o : Origin) (home : Station)
    (timer : Option Nat) : State :=
  (s.setSlot t (some
    { state := .pending, lock := l, mode := m, origin := o, home := home, timer := timer,
      cancelCause := .none, mark := false, hold := none, recordsPending := 0, owed := none })).appendRequest
    { destination := home, body := .acquire l t m w }

/-- The checks of an ACQUIRE after its fields (R174 checks 3 to 6, R185 checks 2 to 5): the refusal, or the
slot to open and the home station. -/
def admitAcquire (s : State) (l : LockId) : Except SubmissionResult (Tag × Station) :=
  match homeOf s.ctl.activeMap l with
  | none => .error .unmapped
  | some h =>
    if (s.slotForLock l).isSome then .error .duplicate
    else if h ≠ s.own ∧ ((s.peer h).state = .absent ∨ (s.peer h).state = .mismatched) then
      .error .homeUnavailable
    else
      match s.lowestFree with
      | none => .error .noSlot
      | some t => .ok (t, h)

/-- Take the release of a HELD slot (R59, R60): RELEASING, with a RELEASE frame appended or owed. -/
def releaseSlot (s : State) (t : Tag) (r : SlotRecord) (u : Bool) (v : List Byte) : State :=
  s.sendOrOwe t { r with state := .releasing } (.release r.lock t r.heldGeneration u v)

/-! ## Purges and LEAVE (R69 to R71) -/

end State

/-- The LOST record a slot posts, if it posts one (R69, R70, R71): every COMMAND slot does, a WINDOW slot
only when it was HELD or RELEASING. -/
def SlotRecord.lostRecord (r : SlotRecord) (t : Tag) (why : Reason) : Option CompletionRecord :=
  match r.origin, r.state with
  | .command, .done => none
  | .command, _ => some (r.toRecord t .lost why r.heldGeneration [])
  | .window, .held => some (r.toRecord t .lost why r.heldGeneration [])
  | .window, .releasing => some (r.toRecord t .lost why r.heldGeneration [])
  | .window, _ => none

/-- What a slot becomes when it is made LOST, or, being DONE, when its frame may have been removed. -/
def SlotRecord.lose (r : SlotRecord) (t : Tag) (why : Reason) (stands : Bool) : Option SlotRecord :=
  if r.isOpen then (r.counting (r.lostRecord t why)).finished stands else r.settled stands

namespace State

/-- Make every affected open slot LOST (R69, R71), once the outbound request queue is as the event leaves it.
The records are posted in ascending slot order (log 6). The stalled read of an affected open slot ends with
the outcome LOST (R70). -/
def loseSlots (s : State) (affected : Station → Bool) (why : Reason) : State :=
  let lost (t : Tag) : Option CompletionRecord :=
    match s.slot t with
    | some r => if affected r.home then r.lostRecord t why else none
    | none => none
  let s1 := s.withReq
    { slots := vmapIdx (fun t sl =>
        match sl with
        | some r => if affected r.home then r.lose t why (frameStands t s.dlv.requests) else some r
        | none => none) s.req.slots,
      completions := s.req.completions ++ (List.finRange 32).filterMap lost }
  match s.port.window with
  | .idle => s1
  | .stalled t _ =>
    match s.slot t with
    | some r =>
      if affected r.home = true ∧ r.isOpen = true then s1.endRead t (resultWord CompletionKind.lost.code why) else s1
    | none => s1

/-- Pop the head of the completion queue (R76, R77, R179); an empty queue ignores it. -/
def popRecord (s : State) : State :=
  match s.req.completions with
  | [] => s
  | c :: cs =>
    let s1 := s.withReq { s.req with completions := cs }
    match s1.slot c.slot with
    | none => s1
    | some r =>
      s1.setSlot c.slot
        ({ r with recordsPending := r.recordsPending - 1 }.settled (frameStands c.slot s.dlv.requests))

end State

end Sys2Proof.Machine
end

