-- ==== Sys2Proof/Machine/Purge.lean ====
section
/-! DEFINITION. The peer purge (R138 to R140): its parts in the delivery unit (R133), the roster (R139), the
home controller (R33) and the request controller (R69, R70), in one event. The parts touch different state;
the request controller's part comes last because it reads the queues as the purge leaves them (R138). -/

namespace Sys2Proof.Machine

/-- The state in which each cause leaves the peer (R139). -/
def PurgeCause.stateAfter : PurgeCause → PeerState
  | .silence => .absent
  | .noAnswer => .absent
  | .left => .absent
  | .restarted => .present
  | .disowned => .present
  | .mismatch => .mismatched

/-- A send record after a purge of its destination (R133): the next sequence number advances, and started
frame, count, last answer and hold-off go. -/
def SendRecord.purged (r : SendRecord) : SendRecord := SendRecord.clear (r.nextSequence + 1#8)

/-- An attempt of a frame to p, whose outcome will be ignored (R125, R133). -/
def Attempt.abandonTo (a : Attempt) (p : Station) : Attempt :=
  match a.kind with
  | .addressed d _ => if d = p then { a with ignored := true } else a
  | .presence => a
  | .leave => a

namespace State

/-- The delivery unit's part (R133), with the attempt in flight to p marked as ignored. -/
def purgeDelivery (s : State) (p : Station) : State :=
  (s.withDlv { s.dlv with
    requests := s.dlv.requests.filter (fun e => decide (e.destination ≠ p)),
    responses := s.dlv.responses.filter (fun e => decide (e.destination ≠ p)),
    send := vset s.dlv.send p (s.sendRecord p).purged,
    receive := vset s.dlv.receive p none }).withBus
    { s.bus with attempt := s.bus.attempt.map (·.abandonTo p) }

/-- The roster's part (R139). -/
def purgeRoster (s : State) (p : Station) (c : PurgeCause) : State :=
  s.setPeer p { s.peer p with state := c.stateAfter, syncOut := true, syncIn := true }

/-- The home controller's part (R33). -/
def purgeHome (s : State) (p : Station) : State :=
  s.withHome (s.home.purge (decide (s.ctl.state = .online)) p)

/-- The purge of peer p with a cause (R138). -/
def purge (s : State) (p : Station) (c : PurgeCause) : State :=
  (((s.purgeDelivery p).purgeRoster p c).purgeHome p).loseSlots (fun h => decide (h = p)) (.purge c)

end State

end Sys2Proof.Machine
end

