-- ==== Sys2Proof/Machine/LifeCycle.lean ====
section
/-! DEFINITION. The station's life cycle (08_station_life_cycle.md): the START checks and effect, entry to
ONLINE, entry to and end of LEAVING, and the two resets. -/

namespace Sys2Proof.Machine

/-! ## START (R156, R158) -/

/-- Check 1 of R156: the epoch is not 0 and differs from the previous epoch. -/
def epochOk (c : ConfigBlock) (previous : Option Word) : Bool :=
  decide (c.epoch ≠ 0#16) && decide (previous ≠ some c.epoch)

/-- Check 2 of R156. -/
def ConfigBlock.timingOk (c : ConfigBlock) : Bool :=
  decide (1 ≤ c.presenceInterval.toNat) && decide (c.presenceInterval.toNat ≤ 250) &&
    decide (2 ≤ c.silenceLimit.toNat) && decide (c.silenceLimit.toNat ≤ 8) &&
    decide (1 ≤ c.windowWaitLimit.toNat) && decide (c.windowWaitLimit.toNat ≤ 255)

/-- The checks of R156 in their order: the first that fails decides. -/
def startRefusal (c : ConfigBlock) (previous : Option Word) : StartRefusal :=
  if epochOk c previous = false then .badEpoch
  else if c.timingOk = false then .badTiming
  else if c.mapOk = false then .badMap
  else .none

namespace State

/-- A START that passes the checks (R158). -/
def startSucceeds (s : State) : State :=
  ((s.withCtl { s.ctl with
      activeMap := s.ctl.cfg.toMap, digest := mapDigest s.ctl.cfg.toMap, mapActive := true,
      lastStartRefusal := .none, duplicateSeen := false, listenTimer := some s.silenceLength,
      state := .joining }).withRoster
    { peers := vmapIdx (fun p r => if p = s.own then r else PeerRecord.unheard) s.roster.peers,
      presenceTimer := none, fresh := false }).setResult .started

/-- A START submission (R156, R177). -/
def submitStart (s : State) : State :=
  if s.ctl.state ≠ .config then s.setResult .notInConfig else
  match startRefusal s.ctl.cfg s.ctl.previousEpoch with
  | .none => s.startSucceeds
  | .badEpoch => (s.withCtl { s.ctl with lastStartRefusal := .badEpoch }).setResult .badEpoch
  | .badTiming => (s.withCtl { s.ctl with lastStartRefusal := .badTiming }).setResult .badTiming
  | .badMap => (s.withCtl { s.ctl with lastStartRefusal := .badMap }).setResult .badMap

/-! ## ONLINE (R161) -/

/-- Entry to ONLINE, in the event that ends the listen (R160, R161, R135, R152). -/
def enterOnline (s : State) : State :=
  ((s.withCtl { s.ctl with state := .online, listenTimer := none }).withRoster
    { peers := vmapIdx (fun p r =>
        if p = s.own then r
        else { r with syncOut := true, syncIn := true, silenceTimer := some s.silenceLength }) s.roster.peers,
      presenceTimer := some s.presenceInterval, fresh := true }).withDlv
    { s.dlv with
      presenceDue := true,
      send := vmapIdx (fun p r => if p = s.own then r else SendRecord.clear (loByte s.ctl.cfg.epoch)) s.dlv.send,
      receive := Vector.replicate 16 none }

/-! ## LEAVING (R162, R163) -/

/-- Any attempt in flight, its outcome to be ignored (R111, R134, R163). -/
def ignoreAttempt (s : State) : State :=
  s.withBus { s.bus with attempt := s.bus.attempt.map (fun a => { a with ignored := true }) }

/-- The delivery unit's part of entry to LEAVING (R134). -/
def leaveDelivery (s : State) : State :=
  s.withDlv { s.dlv with
    requests := [], responses := [], presenceDue := false, leaveDue := true,
    send := vmapIdx (fun _ r => SendRecord.clear r.nextSequence) s.dlv.send }

/-- Entry to LEAVING (R162). The request controller's part comes after the queues are emptied, since it reads
them (R71, R77). -/
def enterLeaving (s : State) : State :=
  (((s.leaveDelivery.ignoreAttempt.withCtl
      { s.ctl with state := .leaving, leavingTimer := some s.presenceInterval }).withHome
    HomeController.empty).withRoster { s.roster with presenceTimer := none, fresh := false }).loseSlots
    (fun _ => true) .localLeave

/-- A LEAVE submission (R162, R177). -/
def submitLeave (s : State) : State :=
  if s.ctl.state = .online then s.enterLeaving.setResult .leaving else s.setResult .notOnline

/-- LEAVING ends (R163). A LEAVE attempt still in flight will be ignored (log 28). -/
def endLeaving (s : State) : State :=
  (((s.withCtl { s.ctl with
      state := .config, previousEpoch := some s.ctl.cfg.epoch, leavingTimer := none }).withDlv
    { s.dlv with leaveDue := false }).everyPeer (fun r => { r with silenceTimer := none })).ignoreAttempt

/-! ## Resets (R164, R165) -/

/-- The previous epoch a port reset leaves (R157). -/
def previousEpochAfterPortReset (s : State) : Option Word :=
  match s.ctl.state with
  | .config => s.ctl.previousEpoch
  | .joining => some s.ctl.cfg.epoch
  | .online => some s.ctl.cfg.epoch
  | .leaving => some s.ctl.cfg.epoch

/-- The values of a port reset, taken at the assertion of RST- and held (R165). The straps are sampled at its
release, so the two strap values stay until then. -/
def portResetValues (s : State) : State :=
  let r := State.powerOn { stationNumber := s.ctl.number, rateClass := s.ctl.rateClass } s.pending
  r.withCtl { r.ctl with
    previousEpoch := s.previousEpochAfterPortReset, resetCause := .portReset, resetAsserted := true }

/-- The release of RST- (R165): the straps are sampled and the station begins to work. -/
def releasePortReset (s : State) (straps : Straps) : State :=
  s.withCtl { s.ctl with
    number := straps.stationNumber, rateClass := straps.rateClass, resetAsserted := false }

end State

end Sys2Proof.Machine
end

