-- ==== Sys2Proof/Machine/Bus.lean ====
section
/-! DEFINITION. The line phase, positions and attempts of the bus access unit (05_medium_access.md), and the
delivery unit's choice of a frame and treatment of outcomes (06_frame_delivery.md, sections 6.2 to 6.4). -/

namespace Sys2Proof.Machine

/-! ## Positions (R102, R103) -/

/-- The own position from the arbitration reference (R103). -/
def ownPositionOf (own : Station) (reference : Option Station) : Nat :=
  match reference with
  | some r => 1 + (own.val + 15 - r.val) % Config.positions
  | none => own.val + 1

/-- A cycle of positions begins: CYCLE, counter 1, the own position computed from the reference as it
stands (R102, R103). -/
def BusAccess.beginCycle (b : BusAccess) (own : Station) : BusAccess :=
  { b with linePhase := .cycle, positionCounter := some 1, ownPosition := some (ownPositionOf own b.reference) }

/-- A dominant bit ends the cycle: FRAME, and no position until the next window closes (R102). -/
def BusAccess.endCycle (b : BusAccess) : BusAccess :=
  { b with linePhase := .frame, positionCounter := none, ownPosition := none }

/-- A transmission of another station shows its first dominant bit (R99, R102, R108): it ends a cycle; inside a
window it is in progress until its receipt, an ACK that was still due is not sent, and one that was being sent has
ended (log 15). In START-UP it is not taken (R112). -/
def BusAccess.noteTransmission (b : BusAccess) : BusAccess :=
  match b.linePhase with
  | .startUp => b
  | .cycle => b.endCycle
  | .frame => b
  | .window => { b with ackDue := none, ackSending := none, windowTransmission := true }

/-- A transmission has been received, its first dominant bit having been noted (R99): none is in progress in the
window any longer. -/
def BusAccess.transmissionReceived (b : BusAccess) : BusAccess :=
  { b.noteTransmission with windowTransmission := false }

/-- A window opens at the end of a transmission that began outside one, with the reference that transmission
leaves (R100, R104). -/
def BusAccess.openWindow (b : BusAccess) (reference : Option Station) : BusAccess :=
  { b with linePhase := .window, reference := reference, windowTransmission := false }

/-- The station's own frame is going out, with no mismatch so far. -/
def BusAccess.ownSending (b : BusAccess) : Bool :=
  match b.attempt with
  | some a => decide (a.phase = .sending)
  | none => false

namespace State

/-! ## Choosing a frame (R117 to R119) -/

/-- Frames of a queue to a destination may be sent now (R118): a PRESENT peer, no hold-off, and no started
frame but one of this queue. The oldest entry of the queue for the destination is then eligible. -/
def mayStart (s : State) (q : OutQueue) (d : Station) : Bool :=
  decide (d ≠ s.own ∧ (s.peer d).state = .present ∧ (s.sendRecord d).holdOff = none) &&
    match (s.sendRecord d).started with
    | none => true
    | some f => decide (f.queue = q)

/-- The oldest eligible frame of the outbound response queue. -/
def eligibleResponse (s : State) : Option OutResponse :=
  s.dlv.responses.find? (fun e => s.mayStart .response e.destination)

/-- The oldest eligible frame of the outbound request queue. -/
def eligibleRequest (s : State) : Option OutRequest :=
  s.dlv.requests.find? (fun e => s.mayStart .request e.destination)

/-- Begin an attempt: the delimiter goes out, the cycle ends, the attempt is in flight (R105, R110). -/
def beginAttempt (s : State) (k : AttemptKind) (f : Frame) : State :=
  s.withBus { s.bus.endCycle with
    attempt := some { kind := k, frame := f, phase := .sending, answer := none, ignored := false } }

/-- The started frame of a destination: the one it has, or a new one with the next sequence number and the
sync-out flag as it stands (R117). -/
def startedFor (s : State) (q : OutQueue) (d : Station) : StartedFrame :=
  match (s.sendRecord d).started with
  | some f => f
  | none => { queue := q, sequence := (s.sendRecord d).nextSequence, sync := (s.peer d).syncOut }

/-- The send record once its frame is started (R117). -/
def startRecord (s : State) (q : OutQueue) (d : Station) : SendRecord :=
  match (s.sendRecord d).started with
  | some _ => s.sendRecord d
  | none => { s.sendRecord d with started := some (s.startedFor q d), attempts := 0, lastAnswer := .none }

/-- Attempt an addressed frame, starting it if it is not started (R117, R119). -/
def attemptAddressed (s : State) (q : OutQueue) (d : Station) (b : FrameBody) : State :=
  let f := s.startedFor q d
  (s.setSend d (s.startRecord q d)).beginAttempt (.addressed d q) (addressedFrame s.own d f.sequence f.sync b)

/-- The sync-wait list: bit n for each peer n whose sync-in is set; the own bit is 0 (R85, R193). -/
def syncWaitList (s : State) : Word :=
  (List.finRange 16).foldl
    (fun w p => if p ≠ s.own ∧ (s.peer p).syncIn = true then w ||| (1#16 <<< p.val) else w) 0#16

/-- The PRESENCE of this moment (R85, R144). -/
def buildPresence (s : State) : Frame :=
  presenceFrame s.own s.roster.fresh s.ctl.cfg.epoch s.ctl.digest s.syncWaitList

/-- The choice at a sending opportunity (R119) and the attempt of what is chosen. -/
def chooseAndSend (s : State) : State :=
  match s.ctl.state with
  | .online =>
    if s.dlv.presenceDue then
      (s.withDlv { s.dlv with presenceDue := false }).beginAttempt .presence s.buildPresence
    else
      match s.eligibleResponse with
      | some e => s.attemptAddressed .response e.destination (.response e.body)
      | none =>
        match s.eligibleRequest with
        | some e => s.attemptAddressed .request e.destination (.request e.body)
        | none => s
  | .leaving =>
    if s.dlv.leaveDue then
      (s.withDlv { s.dlv with leaveDue := false }).beginAttempt .leave (leaveFrame s.own s.ctl.cfg.epoch)
    else s
  | .config => s
  | .joining => s

/-- A sending opportunity is offered (R105): ONLINE or LEAVING, the line recessive since the cycle began, no
attempt in flight. -/
def opportunityOffered (s : State) : Bool :=
  decide ((s.ctl.state = .online ∨ s.ctl.state = .leaving) ∧ s.bus.linePhase = .cycle ∧ s.bus.attempt = none)

/-- The position counter stands at the own position when the opportunity comes (R102, R105; log 17). -/
def atOwnPosition (s : State) : State :=
  s.withBus { s.bus with positionCounter := s.bus.ownPosition }

end State

/-! ## Outcomes of an attempt (R110, R120 to R125) -/

/-- The outcomes R110 lists. -/
inductive AttemptOutcome where
  | answered (r : AckResult)
  | noAnswer
  | collision
  | broadcastSent
  deriving DecidableEq, Repr

/-- The outcome reported at the close of the window (R110). -/
def Attempt.outcome (a : Attempt) : AttemptOutcome :=
  match a.phase with
  | .collision => .collision
  | .sending | .sentWhole =>
    match a.kind with
    | .presence => .broadcastSent
    | .leave => .broadcastSent
    | .addressed _ _ =>
      match a.answer with
      | some r => .answered r
      | none => .noAnswer

/-- Remove the oldest frame to a destination. -/
def dropOldestRequest (d : Station) (q : List OutRequest) : List OutRequest :=
  q.eraseP (fun e => decide (e.destination = d))

/-- Remove the oldest response to a destination. -/
def dropOldestResponse (d : Station) (q : List OutResponse) : List OutResponse :=
  q.eraseP (fun e => decide (e.destination = d))

namespace State

/-- The sequence number advances and nothing is started (R120); SYNC accepted clears sync-out. -/
def acceptStarted (s : State) (d : Station) (f : StartedFrame) : State :=
  let s1 := s.setSend d { s.sendRecord d with
    nextSequence := (s.sendRecord d).nextSequence + 1#8, started := none, attempts := 0, lastAnswer := .none }
  if f.sync then s1.setPeer d { s.peer d with syncOut := false } else s1

/-- The started frame is answered ACCEPT (R120): it leaves its queue, and the departure of a request is
reported. -/
def frameAccepted (s : State) (d : Station) (q : OutQueue) (f : StartedFrame) : State :=
  let s1 := s.acceptStarted d f
  match q with
  | .response => s1.withDlv { s1.dlv with responses := dropOldestResponse d s1.dlv.responses }
  | .request =>
    match oldestRequestTo d s.dlv.requests with
    | none => s1
    | some e =>
      (s1.withDlv { s1.dlv with requests := dropOldestRequest d s1.dlv.requests }).requestDeparted
        e.body.tag e.body.isAcquire

/-- The started frame is answered BUSY or UNHEARD (R121): it stays, the hold-off starts, UNHEARD sets
presence-due; the answer to an ACQUIRE is reported (R64). -/
def frameNotTaken (s : State) (d : Station) (q : OutQueue) (answer : LastAnswer) : State :=
  let s1 := s.setSend d { s.sendRecord d with lastAnswer := answer, holdOff := some Config.holdOffBits }
  let s2 := if answer = .unheard then s1.setPresenceDue else s1
  match q, oldestRequestTo d s2.dlv.requests with
  | .request, some e => if e.body.isAcquire then s2.acquireNotTaken e.body.tag else s2
  | .request, none => s2
  | .response, _ => s2

/-- The started frame goes unanswered, or meets a collision (R123): the count rises, and at 8 the destination
is purged with NO_ANSWER. -/
def frameUnanswered (s : State) (d : Station) : State :=
  let n := (s.sendRecord d).attempts + 1
  let s1 := s.setSend d { s.sendRecord d with attempts := n, lastAnswer := .none }
  if Config.maxAttempts ≤ n then s1.purge d .noAnswer else s1

/-- The outcome of an addressed attempt whose frame still stands (R120 to R123). -/
def addressedOutcome (s : State) (d : Station) (q : OutQueue) (f : StartedFrame) (o : AttemptOutcome) : State :=
  match o with
  | .answered .accept => s.frameAccepted d q f
  | .answered .busy => s.frameNotTaken d q .busy
  | .answered .unheard => s.frameNotTaken d q .unheard
  | .answered .reject => s.purge d .disowned
  | .noAnswer => s.frameUnanswered d
  | .collision => s.frameUnanswered d
  | .broadcastSent => s

/-- Apply the outcome of an attempt (R120 to R125): ignored when its frame has gone. -/
def applyOutcome (s : State) (a : Attempt) : State :=
  if a.ignored then s else
  match a.kind with
  | .presence =>
    if a.outcome = .collision then s.setPresenceDue else s.withRoster { s.roster with fresh := false }
  | .leave =>
    if a.outcome = .collision then s.withDlv { s.dlv with leaveDue := true } else s.endLeaving
  | .addressed d q =>
    match (s.sendRecord d).started with
    | some f => s.addressedOutcome d q f a.outcome
    | none => s

/-- The attempt ends and its outcome is applied in the same event (R110). -/
def endAttempt (s : State) : State :=
  match s.bus.attempt with
  | none => s
  | some a => (s.withBus { s.bus with attempt := none }).applyOutcome a

/-- The close of an acknowledgement window (R100, R110): the outcome first, then a new cycle. -/
def closeWindow (s : State) : State :=
  let s1 := s.endAttempt
  s1.withBus ({ s1.bus with ackDue := none, ackSending := none }.beginCycle s1.own)

/-- A read-back mismatch on the own frame (R106). On the start bit of the delimiter the line has shown no
dominant bit: the attempt ends as a collision in this event, and the cycle is as it was (log 18). Later, the
attempt is marked and the station follows the transmission as a receiver (R107). -/
def frameMismatch (s : State) (a : Attempt) (bit : Nat) : State :=
  let b := { s.bus with attempt := some { a with phase := AttemptPhase.collision } }
  if bit = 0 then
    let p := ownPositionOf s.own s.bus.reference
    (s.withBus { b with linePhase := .cycle, positionCounter := some p, ownPosition := some p }).endAttempt
  else s.withBus b

/-- The mismatch on the ACK being sent (R108): it stops, and is not sent again. The transmission on the line goes
on and is received (R107), unless the mismatch is at the start bit, when the line has shown no dominant bit and
none has begun (R106; log 15). -/
def ackMismatch (s : State) (bit : Nat) : State :=
  match s.bus.ackSending with
  | some f =>
    if bit < f.levels.length then
      s.withBus { s.bus with ackSending := none, windowTransmission := decide (0 < bit) }
    else s
  | none => s

/-- A read-back mismatch (R106, R108): on the own frame, or on the ACK being sent, which stops and is not sent
again; a bit the transmission does not have meets nothing. -/
def readBack (s : State) (bit : Nat) : State :=
  match s.bus.attempt with
  | some a =>
    if a.phase = .sending ∧ bit < a.frame.levels.length then s.frameMismatch a bit else s.ackMismatch bit
  | none => s.ackMismatch bit

/-- The own arbitrated frame ends with no mismatch (R106): the line is released, the reference is the own
number, the window opens. -/
def ownFrameEnds (s : State) : State :=
  match s.bus.attempt with
  | some a =>
    if a.phase = .sending then
      s.withBus ({ s.bus with attempt := some { a with phase := .sentWhole } }.openWindow (some s.own))
    else s
  | none => s

end State

end Sys2Proof.Machine
end

