-- ==== Sys2Proof/Machine/BusCommands.lean ====
section
/-! DEFINITION. The meanings of the bus access unit's own events: the sending opportunity, the end or
mismatch of a transmission, the window's close, the ACK, and the line events that begin and end cycles. -/

namespace Sys2Proof.Machine

namespace State

/-- The own position begins (R105): the delivery unit chooses if an opportunity is offered. -/
def takeOpportunity (s : State) : State :=
  onlyIf (s.opportunityOffered = true) s (fun x => x.atOwnPosition.chooseAndSend)

/-- A window that is open closes, once no transmission that began inside it is in progress (R100, R101, R110). -/
def windowCloses (s : State) : State :=
  onlyIf (s.bus.linePhase = .window ∧ s.bus.windowTransmission = false) s closeWindow

/-- The ACK that is due is begun (R108), inside the window and in ONLINE or LEAVING only (R112; log 15). -/
def beginAck (s : State) : State :=
  match s.bus.ackDue with
  | none => s
  | some f =>
    onlyIf ((s.ctl.state = .online ∨ s.ctl.state = .leaving) ∧ s.bus.linePhase = .window) s
      (fun x => x.withBus { x.bus with ackDue := none, ackSending := some f })

/-- START-UP ends (R112): a cycle begins with the reference as it stands, which is unknown. -/
def endStartUp (s : State) : State :=
  onlyIf (s.bus.linePhase = .startUp) s (fun x => x.withBus (x.bus.beginCycle x.own))

/-- Another station's first dominant bit (R99, R102, R108); while the own frame goes out the bit is part of
what the read-back compares (R106). -/
def othersBegin (s : State) : State :=
  onlyIf (s.bus.ownSending = false) s (fun x => x.withBus x.bus.noteTransmission)

end State

/-- SENDING_OPPORTUNITY (R105, R117 to R119). -/
def execSendingOpportunity (s : State) : Result := .next (running s State.takeOpportunity)

/-- READ_BACK_MISMATCH (R106, R107, R108). -/
def execReadBackMismatch (bit : Nat) (s : State) : Result := .next (running s (fun x => x.readBack bit))

/-- OWN_TRANSMISSION_END (R106, R104). -/
def execOwnTransmissionEnd (s : State) : Result := .next (running s State.ownFrameEnds)

/-- WINDOW_CLOSE (R100, R102, R103, R110, R120 to R125). -/
def execWindowClose (s : State) : Result := .next (running s State.windowCloses)

/-- ACK_TRANSMISSION (R108). -/
def execAckTransmission (s : State) : Result := .next (running s State.beginAck)

/-- STARTUP_LINE_IDLE (R112). -/
def execStartupLineIdle (s : State) : Result := .next (running s State.endStartUp)

/-- TRANSMISSION_BEGIN (R102, R99). -/
def execTransmissionBegin (s : State) : Result := .next (running s State.othersBegin)

end Sys2Proof.Machine
end

