-- ==== Sys2Proof/Machine/HomeSteps.lean ====
section
/-! DEFINITION. Service steps and walk steps (R21, R35), the routing of their responses (R22), and the
loopback move (R126). -/

namespace Sys2Proof.Machine

namespace State

/-- A response to peer d goes into the outbound response queue (R22): d is PRESENT, not pending purge, and
not the station of the walk. -/
def responseDeliverable (s : State) (d : Station) : Bool :=
  decide ((s.peer d).state = .present) && decide (d ∉ s.home.pendingPurge) &&
    !(s.home.walk.any (fun w => decide (w.station = d)))

/-- Route one response at the moment it is produced (R22): to the own request controller, to the outbound
response queue, or discarded. -/
def routeResponse (s : State) (e : OutResponse) : State :=
  if e.destination = s.own then s.applyResponse s.own e.body
  else if s.responseDeliverable e.destination then s.appendResponse e
  else s

/-- Route the responses of a step, in order (R22). -/
def routeResponses (s : State) (es : List OutResponse) : State := es.foldl routeResponse s

/-- Sixteen entries of the outbound response queue are free (R21, R35). -/
def roomForStep (s : State) : Bool :=
  decide (s.dlv.responses.length + Config.reservedResponses ≤ Config.outboundEntries)

/-- A service step may be taken (R21), the inbound request queue not being empty. -/
def serviceAllowed (s : State) : Bool :=
  decide (s.ctl.state = .online ∧ s.home.walk = none ∧ s.home.pendingPurge = []) && s.roomForStep

/-- Carry out a step: the head has left the queue, the table is as the step makes it, and every response is
routed (R21, R22). -/
def carryOut (s : State) (inbound : List InboundRequest) (step : HomeStep) : State :=
  (s.withHome { s.home with inbound := inbound, table := step.table }).routeResponses step.responses

/-- A service step on an ACQUIRE at the head (R23 to R25). -/
def serveAcquire (s : State) : State :=
  if s.serviceAllowed = false then s else
  match s.home.inbound with
  | { source := p, body := .acquire l t m w } :: rest =>
    s.carryOut rest (acquireStep s.own s.ctl.activeMap s.home.table p t l m w)
  | _ => s

/-- A service step on a RELEASE at the head (R26, R27). -/
def serveRelease (s : State) : State :=
  if s.serviceAllowed = false then s else
  match s.home.inbound with
  | { source := p, body := .release l t g u v } :: rest =>
    s.carryOut rest (releaseStep s.home.table p t l g u v)
  | _ => s

/-- A service step on a CANCEL at the head (R32). -/
def serveCancel (s : State) : State :=
  if s.serviceAllowed = false then s else
  match s.home.inbound with
  | { source := p, body := .cancel l t } :: rest =>
    s.carryOut rest (cancelStep s.home.table p t l)
  | _ => s

/-- After a visit the position is the visited lock ID plus one, and a walk with nothing left ends (R35, R36). -/
def advanceWalk (s : State) (w : Walk) (visited : LockId) : State :=
  s.withHome (settleWalk { s.home with walk := some { w with position := visited.toNat + 1 } })

/-- A walk step (R35): taken in ONLINE with a walk in progress and sixteen free response entries. -/
def stepWalk (s : State) : State :=
  if s.roomForStep = false ∨ s.ctl.state ≠ .online then s else
  match s.home.walk with
  | none => s
  | some w =>
    match nextEntry s.home.table w.position with
    | none => s.withHome (settleWalk s.home)
    | some e => (s.carryOut s.home.inbound (visitStep s.home.table w.station e)).advanceWalk w e.lock

/-- The loopback move (R126): in ONLINE, while the inbound request queue has a free entry, the oldest frame to
the own number moves to its tail, and the departure is reported. -/
def moveLoopback (s : State) : State :=
  if s.ctl.state ≠ .online ∨ Config.inboundEntries ≤ s.home.inbound.length then s else
  match oldestRequestTo s.own s.dlv.requests with
  | none => s
  | some e =>
    ((s.withHome { s.home with inbound := s.home.inbound ++ [{ source := s.own, body := e.body }] }).withDlv
      { s.dlv with requests := dropOldestRequest s.own s.dlv.requests }).requestDeparted
      e.body.tag e.body.isAcquire

end State

end Sys2Proof.Machine
end

