-- ==== Sys2Proof/Machine/HomeCommands.lean ====
section
/-! DEFINITION. The meanings of the service steps, the walk step and the loopback move. -/

namespace Sys2Proof.Machine

/-- ACQUIRE_AT_HOME (R21, R22, R23 to R25). -/
def execAcquireAtHome (s : State) : Result := .next (running s State.serveAcquire)

/-- RELEASE_AT_HOME (R21, R22, R26, R27). -/
def execReleaseAtHome (s : State) : Result := .next (running s State.serveRelease)

/-- CANCEL_AT_HOME (R21, R22, R32). -/
def execCancelAtHome (s : State) : Result := .next (running s State.serveCancel)

/-- WALK_STEP (R35, R36). -/
def execWalkStep (s : State) : Result := .next (running s State.stepWalk)

/-- LOOPBACK_MOVE (R126). -/
def execLoopbackMove (s : State) : Result := .next (running s State.moveLoopback)

end Sys2Proof.Machine
end

