-- ==== Sys2Proof/Machine/Flags.lean ====
section
/-! DEFINITION. The outputs and counts that other state already fixes: RDY, IRQ-, the line driver, the
completion count, the free-slot count and the free waiter records. Each is computed from its one home. -/

namespace Sys2Proof.Machine

namespace State

/-- RDY is high unless a read is stalled (R167, R186). -/
def rdyHigh (s : State) : Bool := decide (s.port.window = .idle)

/-- IRQ- is active while the interrupt enable is set and a record is queued (R170). -/
def irqActive (s : State) : Bool := s.port.interruptEnable && !s.req.completions.isEmpty

/-- The station drives the line: its own frame is going out, or an ACK is (R106, R108, R112). -/
def drivesLine (s : State) : Bool :=
  (match s.bus.attempt with
   | some a => decide (a.phase = .sending)
   | none => false) || s.bus.ackSending.isSome

/-- The completion count, 003h (R179). -/
def completionCount (s : State) : Nat := s.req.completions.length

/-- The free-slot count, 004h (R46). -/
def freeSlotCount (s : State) : Nat := ((List.finRange 32).filter (fun t => (s.slot t).isNone)).length

/-- Waiter records free in the pool (R17). -/
def freeWaiterRecords (s : State) : Nat :=
  Config.waiterRecords - (s.home.table.map (fun e => e.waiters.length)).sum

end State

end Sys2Proof.Machine
end

