-- ==== Sys2Proof/Machine/Receive.lean ====
section
/-! DEFINITION. Receipt of a transmission: the checks of R90 and the actions of R91 to R95, the receive checks
of R128 to R132, what the roster does with PRESENCE and LEAVE (R145 to R150), and an ACK as an answer (R89). -/

namespace Sys2Proof.Machine

namespace State

/-! ## Request and response frames (R128 to R132) -/

/-- The ACK of a decided result falls due (R108). -/
def dueAck (s : State) (p : Station) (f : Frame) (r : AckResult) : State :=
  s.withBus { s.bus with ackDue := some (ackFrame s.own p f.sequence r) }

/-- The ACK result of an addressed frame, and the frame's dispatch (R131): a request enters the inbound
request queue, a response goes to the request controller, anything else does not come here. -/
def dispatch (s : State) (p : Station) (b : FrameBody) : State :=
  match b with
  | .request r => s.withHome { s.home with inbound := s.home.inbound ++ [{ source := p, body := r }] }
  | .response r => s.applyResponse p r
  | .presence _ _ _ => s
  | .leave _ => s
  | .ack _ _ => s

/-- Step 8 of R128: ACCEPT. The receive record is updated, then sync-in is cleared by a frame with SYNC (R129,
R130), and the frame is dispatched (R131). -/
def takeFrame (s : State) (p : Station) (f : Frame) : State :=
  let s1 := s.setReceive p (some { sequence := f.sequence, sync := f.sync })
  let s2 := if f.sync then s1.setPeer p { s1.peer p with syncIn := false } else s1
  (s2.dueAck p f .accept).dispatch p f.body

/-- Steps 7 and 8 of R128: BUSY for a request that finds no free inbound entry; else the
frame is taken. -/
def admitFrame (s : State) (p : Station) (f : Frame) : State :=
  match f.body with
  | .request _ =>
    if Config.inboundEntries ≤ s.home.inbound.length then s.dueAck p f .busy else s.takeFrame p f
  | .response _ => s.takeFrame p f
  | .presence _ _ _ => s
  | .leave _ => s
  | .ack _ _ => s

/-- The receive checks of an ONLINE station on a frame of peer p (R128 to R131). -/
def receiveChecks (s : State) (p : Station) (f : Frame) : State :=
  match (s.peer p).state with
  | .unknown => s.dueAck p f .unheard
  | .absent => s.dueAck p f .reject
  | .mismatched => s.dueAck p f .reject
  | .present =>
    if (s.peer p).syncIn = true ∧ f.sync = false then s.dueAck p f .reject
    else if s.receiveRecord p = some { sequence := f.sequence, sync := f.sync } then s.dueAck p f .accept
    else if f.sync = true ∧ (s.peer p).syncIn = false then (s.purge p .disowned).admitFrame p f
    else s.admitFrame p f

/-- An addressed frame at a LEAVING station (R132): a request is answered BUSY, a response ACCEPT; nothing is
taken. -/
def answerWhileLeaving (s : State) (p : Station) (f : Frame) : State :=
  match f.body with
  | .request _ => s.dueAck p f .busy
  | .response _ => s.dueAck p f .accept
  | .presence _ _ _ => s
  | .leave _ => s
  | .ack _ _ => s

/-! ## PRESENCE and LEAVE at the roster (R145 to R150) -/

/-- Record the epoch a PRESENCE carries. -/
def recordEpoch (s : State) (p : Station) (e : Word) : State :=
  s.setPeer p { s.peer p with epoch := some e }

/-- Move a peer to a state without a purge. -/
def setPeerState (s : State) (p : Station) (x : PeerState) : State :=
  s.setPeer p { s.peer p with state := x }

/-- A PRESENCE in JOINING (R145). -/
def presenceInJoining (s : State) (p : Station) (epoch digest : Word) : State :=
  (s.recordEpoch p epoch).setPeerState p (if digest = s.ctl.digest then .present else .mismatched)

/-- Step 5 of R146: the sync-wait notice (R147). -/
def syncWaitNotice (s : State) (p : Station) (list : Word) : State :=
  if list.getLsbD s.own.val = true ∧ (s.peer p).syncOut = false then s.purge p .disowned else s

/-- A PRESENCE in ONLINE and LEAVING (R146, R147). -/
def presenceHeard (s : State) (p : Station) (fresh : Bool) (epoch digest list : Word) : State :=
  if digest ≠ s.ctl.digest then
    if (s.peer p).state = .mismatched then s.recordEpoch p epoch
    else (s.purge p .mismatch).recordEpoch p epoch
  else
    match (s.peer p).state with
    | .unknown => ((s.setPeerState p .present).recordEpoch p epoch).syncWaitNotice p list
    | .absent => ((s.setPeerState p .present).recordEpoch p epoch).syncWaitNotice p list
    | .mismatched => ((s.setPeerState p .present).recordEpoch p epoch).syncWaitNotice p list
    | .present =>
      if (s.peer p).epoch ≠ some epoch ∨ fresh = true then
        ((s.purge p .restarted).recordEpoch p epoch).syncWaitNotice p list
      else s.syncWaitNotice p list

/-- A LEAVE in ONLINE and LEAVING (R150). -/
def leaveHeard (s : State) (p : Station) : State :=
  match (s.peer p).state with
  | .present => s.purge p .left
  | .unknown => s.purge p .left
  | .mismatched => s.setPeerState p .absent
  | .absent => s

/-! ## ACK (R89, R109) -/

/-- The attempt an ACK frame answers (R89): sent whole, addressed, to the ACK's source, with the sequence
number echoed, the ACK being addressed to this station. The window of the attempt is the one now open. -/
def answers (s : State) (a : Attempt) (f : Frame) (echo : Byte) : Bool :=
  match a.kind with
  | .addressed d _ =>
    decide (a.phase = .sentWhole ∧ s.bus.linePhase = .window ∧ f.addressee = some s.own ∧ f.source = d ∧
      echo = a.frame.sequence)
  | .presence => false
  | .leave => false

/-- The first such ACK is kept as the attempt's outcome (R109); any other changes nothing. -/
def ackReceived (s : State) (f : Frame) (echo : Byte) (r : AckResult) : State :=
  match s.bus.attempt with
  | none => s
  | some a =>
    if s.answers a f echo = true ∧ a.answer = none then
      s.withBus { s.bus with attempt := some { a with answer := some r } }
    else s

/-! ## A valid frame (R92 to R95) -/

/-- The silence timer of a source restarts in ONLINE and LEAVING (R93, R148). -/
def restartSilence (s : State) (p : Station) : State :=
  if s.ctl.state = .online ∨ s.ctl.state = .leaving then
    s.setPeer p { s.peer p with silenceTimer := some s.silenceLength }
  else s

/-- Hand on a valid frame of a peer, by its class and the station state (R95). -/
def handOn (s : State) (f : Frame) : State :=
  let p := f.source
  match s.ctl.state with
  | .config => s
  | .joining =>
    match f.body with
    | .presence e d _ => s.presenceInJoining p e d
    | .leave _ => s.setPeerState p .absent
    | .request _ => s
    | .response _ => s
    | .ack _ _ => s
  | .online =>
    match f.body with
    | .request _ => if f.addressee = some s.own then s.receiveChecks p f else s
    | .response _ => if f.addressee = some s.own then s.receiveChecks p f else s
    | .presence e d w => s.presenceHeard p f.fresh e d w
    | .leave _ => s.leaveHeard p
    | .ack n r => s.ackReceived f n r
  | .leaving =>
    match f.body with
    | .request _ => if f.addressee = some s.own then s.answerWhileLeaving p f else s
    | .response _ => if f.addressee = some s.own then s.answerWhileLeaving p f else s
    | .presence e d w => s.presenceHeard p f.fresh e d w
    | .leave _ => s.leaveHeard p
    | .ack n r => s.ackReceived f n r

/-- The effect of a valid frame by its source (R92, R93, R95): one from the own number sets the
duplicate-number-seen flag and goes no further. -/
def fromSource (s : State) (f : Frame) : State :=
  if f.source = s.own then s.withCtl { s.ctl with duplicateSeen := true }
  else (s.restartSilence f.source).handOn f

/-- A valid arbitrated frame sets the reference to its source and opens the window (R94, R100). -/
def arbitratedEnds (s : State) (f : Frame) : State :=
  s.withBus (s.bus.openWindow (some f.source))

/-- A valid frame (R92 to R95); one that is arbitrated ends the listen of JOINING, after its effects (R160). -/
def validFrame (s : State) (f : Frame) : State :=
  if f.body.arbitrated then
    let s1 := (s.arbitratedEnds f).fromSource f
    if s.ctl.state = .joining then s1.enterOnline else s1
  else s.fromSource f

/-- A malformed frame (R91, R100, R101): outside a window the reference becomes unknown and a window opens; inside
one it changes nothing. -/
def malformed (s : State) (inWindow : Bool) : State :=
  if inWindow then s else s.withBus (s.bus.openWindow none)

/-- Receipt of a transmission (R90 to R95, R99). None is taken in START-UP (R112), nor while the own frame goes out
without a mismatch (section 4.7; log 14). The receipt includes the transmission's first dominant bit if
TRANSMISSION_BEGIN has not told it (log 12), and ends it; it began inside a window exactly when one is open, since
a window stays open until a transmission that began inside it has ended (R100, R101). -/
def receive (s : State) (rx : Reception) : State :=
  if s.bus.linePhase = .startUp ∨ s.bus.ownSending = true then s else
  let inWindow := decide (s.bus.linePhase = .window)
  let s1 := s.withBus s.bus.transmissionReceived
  match checkFrame inWindow rx with
  | .error _ => s1.malformed inWindow
  | .ok f => s1.validFrame f

end State

end Sys2Proof.Machine
end

