-- ==== Sys2Proof/Machine/Port.lean ====
section
/-! DEFINITION. Writes and window accesses at the local port (09_the_local_port.md, 10_window_access.md). Each
function here is the effect of a cycle already taken (`portCycle`). -/

namespace Sys2Proof.Machine

namespace State

/-! ## Submissions (R173 to R177) -/

/-- An ACQUIRE submission (R174). -/
def submitAcquire (s : State) : State :=
  if s.ctl.state ≠ .online then s.setResult .notOnline else
  match s.stagedLock, s.stagedMode, s.stagedWait with
  | some l, some m, some w =>
    match s.admitAcquire l with
    | .error r => s.setResult r
    | .ok (t, h) => (s.openSlot t l m w .command h s.stagedTimeout).setResult .accepted
  | _, _, _ => s.setResult .badField

/-- A RELEASE submission (R175). -/
def submitRelease (s : State) : State :=
  if s.ctl.state ≠ .online then s.setResult .notOnline else
  match s.stagedLock, s.stagedUpdate with
  | some l, some (u, v) =>
    match s.slotForLock l with
    | none => s.setResult .notOpen
    | some t =>
      match s.slot t with
      | none => s.setResult .notOpen
      | some r =>
        if r.state = .held then (s.releaseSlot t r u v).setResult .accepted else s.setResult .notHeld
  | _, _ => s.setResult .badField

/-- A CANCEL submission (R176). -/
def submitCancel (s : State) : State :=
  if s.ctl.state ≠ .online then s.setResult .notOnline else
  match s.stagedLock with
  | none => s.setResult .badField
  | some l =>
    match s.slotForLock l with
    | none => s.setResult .notOpen
    | some t =>
      match s.slot t with
      | none => s.setResult .notOpen
      | some r =>
        if (r.state = .pending ∧ r.mark = false) ∨ r.state = .waiting then
          (s.cancelSlot t .software).setResult .accepted
        else s.setResult .notWaiting

/-- A write to the submit word (R173): a value that names no command is ignored. -/
def submit (s : State) (value : Word) : State :=
  match commandOfCode value.toNat with
  | some .acquire => s.submitAcquire
  | some .release => s.submitRelease
  | some .cancel => s.submitCancel
  | some .start => s.submitStart
  | some .leave => s.submitLeave
  | none => s

/-! ## Windows (R185, R192) -/

/-- A refused window read returns its result word at once (R185, R187). -/
def refuseRead (s : State) (r : SubmissionResult) : State :=
  s.withPort { s.port with dataOut := some (resultWord (refusalByte r) .none) }

/-- A window read that opened slot t stalls, with the configured wait limit (R186, R189). -/
def stallRead (s : State) (t : Tag) : State :=
  s.withPort { s.port with window := .stalled t s.ctl.cfg.windowWaitLimit.toNat }

/-- A read in an acquire window (R185). -/
def acquireByWindow (s : State) (m : LockMode) (l : LockId) : State :=
  if s.ctl.state ≠ .online then s.refuseRead .notOnline else
  match s.admitAcquire l with
  | .error r => s.refuseRead r
  | .ok (t, h) => (s.openSlot t l m .queue .window h none).stallRead t

/-- A write in the release window (R192): a HELD slot is released without update; anything else changes
nothing. -/
def releaseByWindow (s : State) (l : LockId) : State :=
  if s.ctl.state ≠ .online then s else
  match s.slotForLock l with
  | none => s
  | some t =>
    match s.slot t with
    | none => s
    | some r => if r.state = .held then s.releaseSlot t r false [] else s

/-- The wait limit of a stalled read runs out (R189, R68): the read returns TIMEOUT and the slot is
cancelled with the cause WINDOW_LIMIT. -/
def windowLimit (s : State) : State :=
  match s.port.window with
  | .idle => s
  | .stalled t _ =>
    (s.endRead t (resultWord CompletionKind.timeout.code .none)).cancelSlot t .windowLimit

/-- The processor withdraws its read strobe (R190, R167): a stalled read ends with no result word and its slot
is cancelled; else the withdrawal completes the cycle and the data is released. -/
def withdrawStrobe (s : State) : State :=
  match s.port.window with
  | .idle => s.withPort { s.port with dataOut := none }
  | .stalled t _ => (s.withPort { s.port with window := .idle, dataOut := none }).cancelSlot t .windowLimit

/-! ## Writes of words (R168, R170 to R172, R183) -/

/-- Set or clear the interrupt enable (R170). -/
def writeInterruptEnable (s : State) (value : Word) : State :=
  s.withPort { s.port with interruptEnable := decide (value ≠ 0#16) }

/-- Write a field of the configuration block, in CONFIG only (R155, R171). -/
def writeConfig (s : State) (f : ConfigBlock → ConfigBlock) : State :=
  if s.ctl.state = .config then s.withCtl { s.ctl with cfg := f s.ctl.cfg } else s

/-- Write word j (0 first, 1 last, 2 home) of a range record. -/
def writeRangeWord (r : RangeRecord) (j : Nat) (value : Word) : RangeRecord :=
  match j with
  | 0 => { r with first := value }
  | 1 => { r with last := value }
  | _ => { r with home := value }

/-- Write word n (counted from 010h) of the range records: record n / 3, word n mod 3 (R171). -/
def writeRange (n : Nat) (value : Word) (c : ConfigBlock) : ConfigBlock :=
  let k : Fin 8 := Fin.ofNat 8 (n / 3)
  { c with ranges := vset c.ranges k (writeRangeWord (c.ranges.get k) (n % 3) value) }

/-- A port write, by the address map of R168. The words with a behaviour of their own act as their own
command does (log 10); an address whose writes are ignored changes nothing. -/
def writeWord (s : State) (address : PortAddr) (value : Word) : State :=
  let a := address.toNat
  if a = 0x002 then s.writeInterruptEnable value
  else if a = 0x008 then s.writeConfig (fun c => { c with epoch := value })
  else if a = 0x009 then s.writeConfig (fun c => { c with presenceInterval := value })
  else if a = 0x00A then s.writeConfig (fun c => { c with silenceLimit := value })
  else if a = 0x00B then s.writeConfig (fun c => { c with windowWaitLimit := value })
  else if a = 0x00C then s.writeConfig (fun c => { c with rangeCount := value })
  else if 0x010 ≤ a ∧ a ≤ 0x027 then s.writeConfig (writeRange (a - 0x010) value)
  else if 0x030 ≤ a ∧ a ≤ 0x03D then
    s.withPort { s.port with staging := vset s.port.staging (Fin.ofNat 14 (a - 0x030)) value }
  else if a = 0x03E then s.submit value
  else if a = 0x04C then s.popRecord
  else if a = 0x050 then s.withPort { s.port with probeLock := value }
  else if 0x3000 ≤ a then s.releaseByWindow (BitVec.ofNat 12 (a - 0x3000))
  else s

end State

end Sys2Proof.Machine
end

