-- ==== Sys2Proof/Machine/Views.lean ====
section
/-! DEFINITION. What every address of the local port reads (R168, R178 to R184, section 11.2), and the port
cycle as the processor's pins make it (R167). -/

namespace Sys2Proof.Machine

/-- Word k of a value block: byte 2k in the high half, byte 2k + 1 in the low, bytes beyond the length 0
(R194). -/
def valueWord (v : List Byte) (k : Nat) : Word := wordOf (v.getD (2 * k) 0#8) (v.getD (2 * k + 1) 0#8)

/-- A number as a word. -/
def natWord (n : Nat) : Word := BitVec.ofNat 16 n

/-- Mode codes in a two-bit field. -/
def LockMode.code2 : LockMode → BitVec 2
  | .exclusive => 1#2
  | .shared => 2#2

namespace State

/-- The station status word, 001h (R166). -/
def statusWord (s : State) : Word :=
  s.ctl.state.code ++ BitVec.ofNat 4 s.ctl.number.val ++ s.ctl.rateClass ++ s.ctl.resetCause.code ++
    s.ctl.lastStartRefusal.code ++ BitVec.ofBool s.ctl.duplicateSeen ++ BitVec.ofBool s.ctl.mapActive ++ 0#3

/-- Completion head word i, 0 to 11 (R178, R195): the head record, or all 0 when the queue is empty. -/
def completionHeadWord (s : State) (i : Nat) : Word :=
  match s.req.completions with
  | [] => 0#16
  | c :: _ =>
    match i with
    | 0 => wordOf c.kind.code c.reason.code
    | 1 => BitVec.ofNat 5 c.value.length ++ c.origin.code ++ c.mode.code2 ++ 0#3 ++ BitVec.ofNat 5 c.slot.val
    | 2 => lockWord c.lock
    | 3 => c.generation
    | n + 4 => valueWord c.value n

/-- The set of stations of the holders, bit n for station n (R38). -/
def holderSet (hs : List Holder) : Word := hs.foldl (fun w h => w ||| (1#16 <<< h.station.val)) 0#16

/-- The entry the probe lock ID names (R38, R183): none above 4095. -/
def probedEntry (s : State) : Option HomeEntry :=
  if s.port.probeLock.toNat ≤ Config.maxLockId then
    findEntry s.home.table (s.port.probeLock.setWidth 12)
  else none

/-- The first probe result word of an entry: present, state, waiter count, head waiter (section 11.2). -/
def probeHeadWord (e : HomeEntry) : Word :=
  let head : BitVec 8 :=
    match e.waiters with
    | [] => 0#8
    | w :: _ => 1#1 ++ 0#1 ++ w.mode.code2 ++ BitVec.ofNat 4 w.station.val
  1#1 ++ 0#1 ++ e.state.code ++ BitVec.ofNat 4 e.waiters.length ++ head

/-- Probe result word i, 0 to 11 (R38, R183). -/
def probeWord (s : State) (i : Nat) : Word :=
  match s.probedEntry with
  | none => 0#16
  | some e =>
    match i with
    | 0 => probeHeadWord e
    | 1 => holderSet e.holders
    | 2 => e.generation
    | 3 => natWord e.value.length
    | n + 4 => valueWord e.value n

/-- Slot view word of a slot (R181). -/
def slotWord (s : State) (t : Tag) : Word :=
  match s.slot t with
  | none => 0#16
  | some r => r.state.code ++ r.lock

/-- Roster view word of a station (R182): self for the own number, with both flags clear. -/
def rosterWord (s : State) (p : Station) : Word :=
  if p = s.own then 0xE000#16
  else (s.peer p).state.code ++ 0#11 ++ BitVec.ofBool (s.peer p).syncOut ++ BitVec.ofBool (s.peer p).syncIn

/-- Word n (counted from 010h) of the range records, as written (R171). -/
def rangeWord (s : State) (n : Nat) : Word :=
  let r := s.ctl.cfg.ranges.get (Fin.ofNat 8 (n / 3))
  match n % 3 with
  | 0 => r.first
  | 1 => r.last
  | _ => r.home

/-- The word at an address as it stands (R168); the gaps, the release window and the words marked so read 0. The
acquire windows hold no word: a read there begins an acquire. -/
def wordAt (s : State) (address : PortAddr) : Word :=
  let a := address.toNat
  if a = 0x000 then Config.partCode
  else if a = 0x001 then s.statusWord
  else if a = 0x002 then (if s.port.interruptEnable then 1#16 else 0#16)
  else if a = 0x003 then natWord s.completionCount
  else if a = 0x004 then natWord s.freeSlotCount
  else if a = 0x008 then s.ctl.cfg.epoch
  else if a = 0x009 then s.ctl.cfg.presenceInterval
  else if a = 0x00A then s.ctl.cfg.silenceLimit
  else if a = 0x00B then s.ctl.cfg.windowWaitLimit
  else if a = 0x00C then s.ctl.cfg.rangeCount
  else if 0x010 ≤ a ∧ a ≤ 0x027 then s.rangeWord (a - 0x010)
  else if a = 0x028 then s.ctl.digest
  else if 0x030 ≤ a ∧ a ≤ 0x03D then s.staged (Fin.ofNat 14 (a - 0x030))
  else if a = 0x03F then natWord s.port.result.code.toNat
  else if 0x040 ≤ a ∧ a ≤ 0x04B then s.completionHeadWord (a - 0x040)
  else if a = 0x050 then s.port.probeLock
  else if 0x051 ≤ a ∧ a ≤ 0x05C then s.probeWord (a - 0x051)
  else if 0x060 ≤ a ∧ a ≤ 0x07F then s.slotWord (tagOfNat (a - 0x060))
  else if 0x080 ≤ a ∧ a ≤ 0x08F then s.rosterWord (stationOfNat (a - 0x080))
  else if 0x090 ≤ a ∧ a ≤ 0x097 then valueWord s.port.lastGrant.value (a - 0x090)
  else if a = 0x098 then natWord s.port.lastGrant.value.length
  else if a = 0x099 then s.port.lastGrant.generation
  else 0#16

/-! ## Port cycles (R167) -/

/-- The effect of a read already taken (R167, R168): in an acquire window it begins an acquire (R185); elsewhere the
station drives the word at the address and changes nothing else. -/
def readWord (s : State) (address : PortAddr) : State :=
  let a := address.toNat
  if 0x1000 ≤ a ∧ a ≤ 0x1FFF then s.acquireByWindow .exclusive (BitVec.ofNat 12 (a - 0x1000))
  else if 0x2000 ≤ a ∧ a ≤ 0x2FFF then s.acquireByWindow .shared (BitVec.ofNat 12 (a - 0x2000))
  else s.withPort { s.port with dataOut := some (s.wordAt address) }

end State

/-- What the processor's pins show in a cycle (R167): which of SEL-, RD- and WR- are asserted, the address on WA13
to WA0, and the data on WD15 to WD0 of a write. -/
structure PortPins where
  sel : Bool
  rd : Bool
  wr : Bool
  address : PortAddr
  data : Word
  deriving DecidableEq, Repr

/-- A read: SEL- and RD- asserted together and WR- not (R167). -/
def PortPins.isRead (p : PortPins) : Bool := p.sel && p.rd && !p.wr

/-- A write: SEL- and WR- asserted together and RD- not (R167). -/
def PortPins.isWrite (p : PortPins) : Bool := p.sel && p.wr && !p.rd

/-- The pins of a write. -/
def PortPins.write (address : PortAddr) (data : Word) : PortPins :=
  { sel := true, rd := false, wr := true, address := address, data := data }

/-- The pins of a read. -/
def PortPins.read (address : PortAddr) : PortPins :=
  { sel := true, rd := true, wr := false, address := address, data := 0#16 }

/-- One port cycle (R167): a read, a write, or neither, which drives no data and changes nothing. The station takes
no cycle while RST- is asserted or a read is stalled. The data driven stays until READ_STROBE_WITHDRAWAL (log 9). -/
def State.takeCycle (s : State) (p : PortPins) : State :=
  portCycle s (fun x =>
    if p.isRead then x.readWord p.address
    else if p.isWrite then x.writeWord p.address p.data
    else x)

end Sys2Proof.Machine
end

