-- ==== Sys2Proof/Machine/PortCommands.lean ====
section
/-! DEFINITION. The meanings of the commands of the local port: the five submissions, the pop, the register
writes, the window accesses and the ends of a stalled read that the port itself sees. -/

namespace Sys2Proof.Machine

/-- ACQUIRE (R174): the submission's checks in order; ACCEPTED opens a slot by R47. -/
def execAcquire (s : State) : Result := .next (portCycle s State.submitAcquire)

/-- RELEASE (R175): the submission's checks in order; ACCEPTED sends the slot to RELEASING by R59. -/
def execRelease (s : State) : Result := .next (portCycle s State.submitRelease)

/-- CANCEL (R176): the submission's checks in order; ACCEPTED makes a cancel with the cause SOFTWARE (R61). -/
def execCancel (s : State) : Result := .next (portCycle s State.submitCancel)

/-- START (R156, R158, R177). -/
def execStart (s : State) : Result := .next (portCycle s State.submitStart)

/-- LEAVE (R162, R177). -/
def execLeave (s : State) : Result := .next (portCycle s State.submitLeave)

/-- POP (R76, R179): the value written is disregarded. -/
def execPop (_value : Word) (s : State) : Result := .next (portCycle s State.popRecord)

/-- INTERRUPT_ENABLE (R170). -/
def execInterruptEnable (value : Word) (s : State) : Result :=
  .next (portCycle s (fun x => x.writeInterruptEnable value))

/-- REGISTER_WRITE (R167, R168, R171, R172, R183): a write acts by its address (log 10). -/
def execRegisterWrite (address : PortAddr) (value : Word) (s : State) : Result :=
  .next (s.takeCycle (.write address value))

/-- ACQUIRE_WINDOW_READ (R185, R186). -/
def execAcquireWindowRead (mode : LockMode) (offset : LockId) (s : State) : Result :=
  .next (portCycle s (fun x => x.acquireByWindow mode offset))

/-- RELEASE_WINDOW_WRITE (R192): the value written is disregarded. -/
def execReleaseWindowWrite (offset : LockId) (_value : Word) (s : State) : Result :=
  .next (portCycle s (fun x => x.releaseByWindow offset))

/-- READ_STROBE_WITHDRAWAL (R190, R167). -/
def execReadStrobeWithdrawal (s : State) : Result := .next (running s State.withdrawStrobe)

/-- WINDOW_WAIT_LIMIT_EXPIRY (R189, R68). -/
def execWindowWaitLimitExpiry (s : State) : Result := .next (running s State.windowLimit)

end Sys2Proof.Machine
end

