-- ==== Sys2Proof/Machine/Receipts.lean ====
section
/-! DEFINITION. The meanings of the six receipt commands. Each carries the levels of its transmission,
from which the bus access unit takes the frame (R99), and acts by them (log 13): the row tells which kind of
frame the receipt is about. -/

namespace Sys2Proof.Machine

/-- REQUEST_FRAME_RECEIPT (R90 to R95, R99, R128 to R132). -/
def execRequestFrameReceipt (levels : Levels) (s : State) : Result :=
  .next (running s (fun x => x.receive (receptionOf levels)))

/-- RESPONSE_FRAME_RECEIPT (R90 to R95, R99, R128 to R132, R53 to R58). -/
def execResponseFrameReceipt (levels : Levels) (s : State) : Result :=
  .next (running s (fun x => x.receive (receptionOf levels)))

/-- PRESENCE_RECEIPT (R90 to R95, R99, R145 to R147). -/
def execPresenceReceipt (levels : Levels) (s : State) : Result :=
  .next (running s (fun x => x.receive (receptionOf levels)))

/-- LEAVE_FRAME_RECEIPT (R90 to R95, R99, R150). -/
def execLeaveFrameReceipt (levels : Levels) (s : State) : Result :=
  .next (running s (fun x => x.receive (receptionOf levels)))

/-- ACK_RECEIPT (R89 to R93, R99, R109). -/
def execAckReceipt (levels : Levels) (s : State) : Result :=
  .next (running s (fun x => x.receive (receptionOf levels)))

/-- MALFORMED_FRAME (R90, R91, R99 to R101). -/
def execMalformedFrame (levels : Levels) (s : State) : Result :=
  .next (running s (fun x => x.receive (receptionOf levels)))

end Sys2Proof.Machine
end

