-- ==== Sys2Proof/Machine/Resets.lean ====
section
/-! DEFINITION. The meanings of the three reset commands (08_station_life_cycle.md, section 8.8). A reset
leaves the queue of waiting commands as it is: it is no part of the station (log 24). -/

namespace Sys2Proof.Machine

/-- POWER_ON_RESET (R164, R42, R78, R112, R135, R152, R169): taken whole, the straps being sampled at its
end; RST- is not asserted then (log 8). -/
def execPowerOnReset (straps : Straps) (s : State) : Result := .next (State.powerOn straps s.pending)

/-- PORT_RESET (R165): the reset values are taken at the assertion of RST-. -/
def execPortReset (s : State) : Result := .next s.portResetValues

/-- PORT_RESET_RELEASE (R165): only an asserted RST- can be released. -/
def execPortResetRelease (straps : Straps) (s : State) : Result :=
  .next (onlyIf (s.ctl.resetAsserted = true) s (fun x => x.releasePortReset straps))

end Sys2Proof.Machine
end

