-- ==== Sys2Proof/Machine/Timers.lean ====
section
/-! DEFINITION. The meanings of the timer expiries. An expiry takes place only while its timer runs (log 5);
when it comes is not counted (log 3). -/

namespace Sys2Proof.Machine

namespace State

/-- A slot timer runs out (R66): a cancel with the cause TIMEOUT. -/
def slotTimeout (s : State) (t : Tag) : State :=
  match s.slot t with
  | none => s
  | some r => onlyIf (r.timer.isSome = true) s (fun x => x.cancelSlot t .timeout)

/-- The hold-off of a destination runs out (R116, R121), in every station state. -/
def endHoldOff (s : State) (d : Station) : State :=
  onlyIf ((s.sendRecord d).holdOff.isSome = true) s
    (fun x => x.setSend d { x.sendRecord d with holdOff := none })

/-- The presence timer runs out (R143): presence-due is set and the timer restarts with the full interval. -/
def presenceTimeout (s : State) : State :=
  onlyIf (s.ctl.state = .online ∧ s.roster.presenceTimer.isSome = true) s (fun x =>
    x.setPresenceDue.withRoster { x.roster with presenceTimer := some x.presenceInterval })

/-- What the roster does about a peer found silent (R149), the timer being absent already. -/
def peerSilent (s : State) (p : Station) : State :=
  match (s.peer p).state with
  | .present => s.purge p .silence
  | .unknown => s.purge p .silence
  | .mismatched => s.setPeer p { s.peer p with state := .absent }
  | .absent => s

/-- The silence timer of a peer runs out (R149), in ONLINE or LEAVING (R148). -/
def silenceTimeout (s : State) (p : Station) : State :=
  onlyIf (p ≠ s.own ∧ (s.ctl.state = .online ∨ s.ctl.state = .leaving) ∧
      (s.peer p).silenceTimer.isSome = true) s
    (fun x => (x.setPeer p { x.peer p with silenceTimer := none }).peerSilent p)

/-- The listen timer runs out (R160): the station enters ONLINE with the reference as it stands. -/
def listenTimeout (s : State) : State :=
  onlyIf (s.ctl.state = .joining ∧ s.ctl.listenTimer.isSome = true) s enterOnline

/-- The leaving timer runs out (R163). -/
def leavingTimeout (s : State) : State :=
  onlyIf (s.ctl.state = .leaving ∧ s.ctl.leavingTimer.isSome = true) s endLeaving

end State

/-- SLOT_TIMER_EXPIRY (R66). -/
def execSlotTimerExpiry (slot : Tag) (s : State) : Result := .next (running s (fun x => x.slotTimeout slot))

/-- HOLD_OFF_EXPIRY (R121). -/
def execHoldOffExpiry (destination : Station) (s : State) : Result :=
  .next (running s (fun x => x.endHoldOff destination))

/-- PRESENCE_TIMER_EXPIRY (R143). -/
def execPresenceTimerExpiry (s : State) : Result := .next (running s State.presenceTimeout)

/-- SILENCE_TIMER_EXPIRY (R149). -/
def execSilenceTimerExpiry (peer : Station) (s : State) : Result :=
  .next (running s (fun x => x.silenceTimeout peer))

/-- LISTEN_TIMER_EXPIRY (R160, R161). -/
def execListenTimerExpiry (s : State) : Result := .next (running s State.listenTimeout)

/-- LEAVING_TIMER_EXPIRY (R163). -/
def execLeavingTimerExpiry (s : State) : Result := .next (running s State.leavingTimeout)

end Sys2Proof.Machine
end

