-- ==== Sys2Proof/Machine/Dispatch.lean ====
section
/-! DEFINITION. The dispatch of a command to its meaning: one arm for each constructor. -/

namespace Sys2Proof.Machine

/-- The effect of a command on everything but the queue of waiting commands. -/
def exec (i : Instr) (s : State) : Host.Outcome State Fault Refusal :=
  match i with
  | .acquire => Sys2Proof.Machine.execAcquire s
  | .release => Sys2Proof.Machine.execRelease s
  | .cancel => Sys2Proof.Machine.execCancel s
  | .start => Sys2Proof.Machine.execStart s
  | .leave => Sys2Proof.Machine.execLeave s
  | .pop value => Sys2Proof.Machine.execPop value s
  | .interruptEnable value => Sys2Proof.Machine.execInterruptEnable value s
  | .registerWrite address value => Sys2Proof.Machine.execRegisterWrite address value s
  | .acquireWindowRead mode offset => Sys2Proof.Machine.execAcquireWindowRead mode offset s
  | .releaseWindowWrite offset value => Sys2Proof.Machine.execReleaseWindowWrite offset value s
  | .readStrobeWithdrawal => Sys2Proof.Machine.execReadStrobeWithdrawal s
  | .windowWaitLimitExpiry => Sys2Proof.Machine.execWindowWaitLimitExpiry s
  | .powerOnReset straps => Sys2Proof.Machine.execPowerOnReset straps s
  | .portReset => Sys2Proof.Machine.execPortReset s
  | .portResetRelease straps => Sys2Proof.Machine.execPortResetRelease straps s
  | .slotTimerExpiry slot => Sys2Proof.Machine.execSlotTimerExpiry slot s
  | .acquireAtHome => Sys2Proof.Machine.execAcquireAtHome s
  | .releaseAtHome => Sys2Proof.Machine.execReleaseAtHome s
  | .cancelAtHome => Sys2Proof.Machine.execCancelAtHome s
  | .walkStep => Sys2Proof.Machine.execWalkStep s
  | .loopbackMove => Sys2Proof.Machine.execLoopbackMove s
  | .sendingOpportunity => Sys2Proof.Machine.execSendingOpportunity s
  | .readBackMismatch bit => Sys2Proof.Machine.execReadBackMismatch bit s
  | .ownTransmissionEnd => Sys2Proof.Machine.execOwnTransmissionEnd s
  | .windowClose => Sys2Proof.Machine.execWindowClose s
  | .ackTransmission => Sys2Proof.Machine.execAckTransmission s
  | .holdOffExpiry destination => Sys2Proof.Machine.execHoldOffExpiry destination s
  | .startupLineIdle => Sys2Proof.Machine.execStartupLineIdle s
  | .requestFrameReceipt levels => Sys2Proof.Machine.execRequestFrameReceipt levels s
  | .responseFrameReceipt levels => Sys2Proof.Machine.execResponseFrameReceipt levels s
  | .presenceReceipt levels => Sys2Proof.Machine.execPresenceReceipt levels s
  | .leaveFrameReceipt levels => Sys2Proof.Machine.execLeaveFrameReceipt levels s
  | .ackReceipt levels => Sys2Proof.Machine.execAckReceipt levels s
  | .malformedFrame levels => Sys2Proof.Machine.execMalformedFrame levels s
  | .presenceTimerExpiry => Sys2Proof.Machine.execPresenceTimerExpiry s
  | .silenceTimerExpiry peer => Sys2Proof.Machine.execSilenceTimerExpiry peer s
  | .listenTimerExpiry => Sys2Proof.Machine.execListenTimerExpiry s
  | .leavingTimerExpiry => Sys2Proof.Machine.execLeavingTimerExpiry s
  | .transmissionBegin => Sys2Proof.Machine.execTransmissionBegin s

end Sys2Proof.Machine
end

