-- ==== Sys2Proof/Safety.lean ====
section
/-! DEFINITION. The laws the station's state obeys between steps, written as invariants: what the spec says
never happens to each table, queue and record (R12 to R18, R36, R40, R44 to R46, R50, R74, R100 to R112, R137,
R141, R142, R186), and the words the statements are written in. -/

namespace Sys2Proof.Machine

/-! ## When a command can be taken -/

/-- RST- is not asserted. -/
abbrev State.working (s : State) : Prop := s.ctl.resetAsserted = false

/-- The port can take a cycle: RST- is not asserted and no read is stalled (R167). -/
abbrev State.portFree (s : State) : Prop := s.ctl.resetAsserted = false ∧ s.port.window = .idle

/-- The state after a submission that changes nothing but the submission result (R173); a cycle that begins
finds the data lines released (R167). -/
def State.answered (s : State) (r : SubmissionResult) : State :=
  { s with port := { s.port with result := r, dataOut := none } }

/-- The state after a cycle that changes nothing (R168). -/
def State.cycleTaken (s : State) : State := { s with port := { s.port with dataOut := none } }

/-- The state after a window read refused at once: its result word is driven (R185, R187). -/
def State.readRefused (s : State) (r : SubmissionResult) : State :=
  { s with port := { s.port with dataOut := some (wordOf (0x80#8 + r.code) 0x00#8) } }

/-! ## What a statement asks of slots, homes and queues -/

/-- A condition on the slot of a tag, when it is not FREE. -/
def State.slotIs (s : State) (t : Tag) (c : SlotRecord → Bool) : Bool :=
  match s.slot t with
  | some r => c r
  | none => true

/-- No slot other than FREE is for the lock (R46). -/
abbrev State.lockUnused (s : State) (l : LockId) : Prop :=
  ∀ u : Tag, s.slotIs u (fun r => decide (r.lock ≠ l)) = true

/-- No slot but this one is for the lock (R46). -/
abbrev State.onlySlot (s : State) (t : Tag) (l : LockId) : Prop :=
  ∀ u : Tag, u ≠ t → s.slotIs u (fun r => decide (r.lock ≠ l)) = true

/-- The lowest-numbered FREE slot (R46). -/
abbrev State.isLowestFree (s : State) (t : Tag) : Prop :=
  s.slot t = none ∧ ∀ u : Tag, u.val < t.val → s.slot u ≠ none

/-- A home that R4 takes a new request for: this station, or a peer neither ABSENT nor MISMATCHED. -/
abbrev State.homeUsable (s : State) (h : Station) : Prop :=
  h = s.own ∨ ((s.peer h).state ≠ .absent ∧ (s.peer h).state ≠ .mismatched)

/-- A service step may be taken (R21). -/
abbrev State.serviceReady (s : State) : Prop :=
  s.ctl.resetAsserted = false ∧ s.ctl.state = .online ∧ s.home.walk = none ∧ s.home.pendingPurge = [] ∧
    s.dlv.responses.length + 16 ≤ 32

/-- A peer to which a response is queued while no purge is pending or walked (R22). -/
abbrev State.presentPeer (s : State) (p : Station) : Prop := p ≠ s.own ∧ (s.peer p).state = .present

/-- What a service step leaves (R21, R22): the inbound request queue and the table as given, the responses
routed in their order. -/
def State.homeStepDone (s : State) (inbound : List InboundRequest) (table : List HomeEntry)
    (responses : List OutResponse) : State :=
  ({ s with home := { s.home with inbound := inbound, table := table } } : State).routeResponses responses

/-- A request frame is the started frame of its destination (R117; log 19). -/
abbrev State.frameStarted (s : State) (e : OutRequest) : Prop :=
  ∃ f : StartedFrame, (s.sendRecord e.destination).started = some f ∧ f.queue = .request ∧
    oldestRequestTo e.destination s.dlv.requests = some e

/-- An attempt of the destination's started request frame is in flight (R110). -/
abbrev State.frameInFlight (s : State) (e : OutRequest) : Prop :=
  ∃ a : Attempt, s.bus.attempt = some a ∧ a.kind = .addressed e.destination .request ∧ a.ignored = false

/-- A send record whose started frame was withdrawn: number and hold-off stay (R127). -/
def SendRecord.unstarted (r : SendRecord) : SendRecord :=
  { nextSequence := r.nextSequence, started := none, attempts := 0, lastAnswer := .none, holdOff := r.holdOff }

/-! ## What an ending makes of a slot -/

/-- A slot that has finished and stays in the table: DONE, with no timer, hold or owed frame (R77), and the mark
clear (log 21). -/
def SlotRecord.ended (r : SlotRecord) : SlotRecord :=
  { r with state := .done, timer := none, mark := false, hold := none, owed := none }

/-- The state with one record of a slot posted, and the slot as given with one more record pending (R73). -/
def State.posting (s : State) (t : Tag) (r : SlotRecord) (k : CompletionKind) (why : Reason) (g : Word)
    (v : List Byte) (after : SlotRecord) : State :=
  { s with req := {
      slots := vset s.req.slots t (some { after with recordsPending := r.recordsPending + 1 }),
      completions := s.req.completions ++ [
        { kind := k, reason := why, origin := r.origin, slot := t, lock := r.lock, mode := r.mode,
          generation := g, value := v }] } }

/-- A slot that finishes without a record: FREE when no record of it is pending and no frame of it stands, else
DONE (R77). -/
def SlotRecord.endedQuietly (r : SlotRecord) (stands : Bool) : Option SlotRecord :=
  if r.recordsPending = 0 ∧ stands = false then none else some r.ended

/-- A DONE slot after a frame of it has left the queue: FREE when nothing of it is left (R77). -/
def SlotRecord.doneAfter (r : SlotRecord) (stands : Bool) : Option SlotRecord :=
  if r.recordsPending = 0 ∧ stands = false then none else some r

/-- One slot replaced. -/
def State.slotNow (s : State) (t : Tag) (r : Option SlotRecord) : State :=
  { s with req := { s.req with slots := vset s.req.slots t r } }

/-- A PENDING slot with the mark set goes to CANCELLING when a GRANT or DENY shows that the home has taken its
ACQUIRE: the CANCEL is owed while a frame of it stands, and else appended (R58, R64); the mark clears (log 29). -/
def State.markedAnswered (s : State) (t : Tag) (r : SlotRecord) : State :=
  if frameStands t s.dlv.requests then
    s.slotNow t (some { r with state := .cancelling, mark := false, owed := some (.cancel r.lock t) })
  else { s.slotNow t (some { r with state := .cancelling, mark := false }) with
    dlv := { s.dlv with requests := s.dlv.requests ++ [{ destination := r.home, body := .cancel r.lock t }] } }

/-- A slot that a GRANT or DENY is applied to: WAITING, or PENDING with a clear mark (R54, R55, R58). -/
abbrev SlotRecord.answerable (r : SlotRecord) : Prop := r.state = .waiting ∨ (r.state = .pending ∧ r.mark = false)

/-- A state in which no GRANT and no DENY is expected, or in which it is discarded (R54, R55). -/
abbrev SlotRecord.pastAnswer (r : SlotRecord) : Prop :=
  r.state = .held ∨ r.state = .releasing ∨ r.state = .cancelling ∨ r.state = .done

/-- What a response from a station makes of a state (R53 to R58): nothing, when it matches no slot by tag, lock and
home or finds its slot in a state that does not expect it; a GRANT makes the slot HELD, with its record or as the
outcome of the stalled read; DENY, RELEASED and CANCELLED finish it, with the record its origin and cause give; a
GRANT or DENY of a marked slot sends it to CANCELLING (R64, R68, R187, R188; logs 21, 29). -/
abbrev State.responseEffect (s : State) (source : Station) (b : ResponseBody) (t : State) : Prop :=
  ((∀ r, s.slot b.tag = some r → r.lock ≠ b.lock ∨ r.home ≠ source) → t = s) ∧
  ∀ r : SlotRecord, s.slot b.tag = some r → r.lock = b.lock → r.home = source →
    match b with
    | .grant _ u _ g v =>
      let held : SlotRecord := { r with state := .held, timer := none, hold := some { generation := g, value := v } }
      (r.answerable → r.origin = .command → t = s.posting u r .granted .none g v held) ∧
      (∀ n, r.answerable → r.origin = .window → s.port.window = .stalled u n →
        t = { s.slotNow u (some held) with port := { s.port with
          window := .idle, dataOut := some 0x0100#16, lastGrant := { generation := g, value := v } } }) ∧
      (r.state = .pending → r.mark = true → t = s.markedAnswered u r) ∧
      (r.pastAnswer → t = s)
    | .deny _ u why =>
      (r.answerable → r.origin = .command → t = s.posting u r .denied (.deny why) 0#16 [] r.ended) ∧
      (∀ n, r.answerable → r.origin = .window → s.port.window = .stalled u n →
        t = { s.slotNow u (r.endedQuietly (frameStands u s.dlv.requests)) with port := { s.port with
          window := .idle, dataOut := some (wordOf 0x02#8 (Reason.deny why).code) } }) ∧
      (r.state = .pending → r.mark = true → t = s.markedAnswered u r) ∧
      (r.pastAnswer → t = s)
    | .released _ u o =>
      (r.state = .releasing → r.origin = .window → o = .ok →
        t = s.slotNow u (r.endedQuietly (frameStands u s.dlv.requests))) ∧
      (∀ k, r.state = .releasing → r.hold = some k → r.origin = .command ∨ o ≠ .ok →
        t = s.posting u r (if o = .stale then .releaseRefused else .released) (.released o) k.generation []
          r.ended) ∧
      (r.state ≠ .releasing → t = s)
    | .cancelled _ u o =>
      (r.state = .cancelling →
        (r.cancelCause = .software → t = s.posting u r .cancelled (.cancelled o) 0#16 [] r.ended) ∧
        (r.cancelCause = .timeout → t = s.posting u r .timeout (.cancelled o) 0#16 [] r.ended) ∧
        (r.cancelCause = .windowLimit →
          t = s.slotNow u (r.endedQuietly (frameStands u s.dlv.requests)))) ∧
      (r.state ≠ .cancelling → t = s)

/-- The LOST record of a slot whose home is lost (R69 to R71): every open COMMAND slot posts one, an open WINDOW
slot only in HELD or RELEASING. -/
def State.lostRecordsOf (s : State) (u : Tag) (lost : Station → Bool) (why : Reason) : List CompletionRecord :=
  match s.slot u with
  | none => []
  | some r =>
    if lost r.home = true ∧ r.isOpen = true ∧ (r.origin = .command ∨ r.state = .held ∨ r.state = .releasing) then
      [{ kind := .lost, reason := why, origin := r.origin, slot := u, lock := r.lock, mode := r.mode,
         generation := (match r.hold with | some k => k.generation | none => 0#16), value := [] }]
    else []

/-! ## What a statement asks of the line -/

/-- The oldest frame of a queue for a destination may be sent (R118): the peer is PRESENT, no hold-off runs, and
no started frame but one of this queue stands. -/
abbrev State.frameReady (s : State) (q : OutQueue) (d : Station) : Prop :=
  d ≠ s.own ∧ (s.peer d).state = .present ∧ (s.sendRecord d).holdOff = none ∧
    (s.sendRecord d).started.all (fun f => decide (f.queue = q)) = true

/-- A sending opportunity is offered (R105). -/
abbrev State.opportunityHere (s : State) : Prop :=
  s.ctl.resetAsserted = false ∧ s.bus.linePhase = .cycle ∧ s.bus.attempt = none

/-- The state in which the own position has begun and a frame begins to go out (R102, R105, R110). -/
def State.frameBegun (s : State) (k : AttemptKind) (f : Frame) : State :=
  { s with bus := { s.bus with
      linePhase := .frame, positionCounter := none, ownPosition := none,
      attempt := some { kind := k, frame := f, phase := .sending, answer := none, ignored := false } } }

/-- The line can carry another station's arbitrated frame (R99 to R101): a cycle or a transmission, and no own
frame going out. -/
abbrev State.canReceive (s : State) : Prop :=
  s.ctl.resetAsserted = false ∧ s.bus.ownSending = false ∧ (s.bus.linePhase = .cycle ∨ s.bus.linePhase = .frame)

/-- The line after a transmission outside a window ended (R94, R100): a window is open, and the reference is as
given. -/
def State.windowOpened (s : State) (reference : Option Station) : State :=
  { s with bus := { s.bus with
      linePhase := .window, reference := reference, windowTransmission := false,
      positionCounter := if s.bus.linePhase = .cycle then none else s.bus.positionCounter,
      ownPosition := if s.bus.linePhase = .cycle then none else s.bus.ownPosition } }

/-- The silence timer of a peer started anew (R93, R148). -/
def State.silenceRestarted (s : State) (p : Station) : State :=
  { s with roster := { s.roster with peers := vset s.roster.peers p { s.peer p with
      silenceTimer := some (s.ctl.cfg.silenceLimit.toNat * s.ctl.cfg.presenceInterval.toNat) } } }

/-- An arbitrated frame of a peer heard in ONLINE or LEAVING: the line and the peer's silence timer (R93, R94). -/
def State.heard (s : State) (p : Station) : State := (s.windowOpened (some p)).silenceRestarted p

/-- An ACK of a result falls due, to a frame's source, echoing its sequence number (R87, R108). -/
def State.answering (s : State) (f : Frame) (r : AckResult) : State :=
  { s with bus := { s.bus with
      ackDue := some
        { sync := false, fresh := false, destination := stationByte f.source, source := s.own, sequence := 0#8,
          body := .ack f.sequence r } } }

/-- A frame of a PRESENT peer whose SYNC flag and sequence number make it neither refused, nor a repeat, nor the
start of a resynchronisation (R128, steps 3 to 6). -/
abbrev State.inOrder (s : State) (f : Frame) : Prop :=
  (s.peer f.source).state = .present ∧ f.sync = (s.peer f.source).syncIn ∧
    s.receiveRecord f.source ≠ some { sequence := f.sequence, sync := f.sync }

/-- The state after a frame is accepted at step 8 of R128, before it is dispatched: the ACK falls due, the receive
record is the frame's, sync-in is clear (R129, R130). -/
def State.frameTaken (s : State) (f : Frame) : State :=
  let x := s.answering f .accept
  { x with
    dlv := { x.dlv with
      receive := vset x.dlv.receive f.source (some { sequence := f.sequence, sync := f.sync }) },
    roster := { x.roster with
      peers := vset x.roster.peers f.source { x.peer f.source with syncIn := false } } }

/-- The state after a frame in order is heard and accepted, before it is dispatched (R93, R94, R128). -/
def State.accepted (s : State) (f : Frame) : State := (s.heard f.source).frameTaken f

/-- What the steps of R128 that discard a frame of a peer make of it, the response frames and the request frames
alike: UNHEARD of an UNKNOWN peer, REJECT of an ABSENT or MISMATCHED one and of a PRESENT one whose awaited SYNC is
missing, ACCEPT of a repeat of the last frame taken; the receive record, the sync flags and every slot and queue stay
(R128, steps 1, 2, 3 and 5; R130). -/
abbrev State.discards (s : State) (f : Frame) (result : Result) : Prop :=
  ((s.peer f.source).state = .unknown → result = .next ((s.heard f.source).answering f .unheard)) ∧
  ((s.peer f.source).state = .absent ∨ (s.peer f.source).state = .mismatched →
    result = .next ((s.heard f.source).answering f .reject)) ∧
  ((s.peer f.source).state = .present →
    ((s.peer f.source).syncIn = true → f.sync = false →
      result = .next ((s.heard f.source).answering f .reject)) ∧
    ((s.peer f.source).syncIn = false ∨ f.sync = true →
      s.receiveRecord f.source = some { sequence := f.sequence, sync := f.sync } →
      result = .next ((s.heard f.source).answering f .accept)))

/-- One peer record replaced. -/
def State.peerNow (s : State) (p : Station) (r : PeerRecord) : State :=
  { s with roster := { s.roster with peers := vset s.roster.peers p r } }

/-- The entry to ONLINE in the event that ends the listen: sequence numbers from the epoch's low byte, no receive
record, a PRESENCE due and FRESH, every peer's flags set and silence timer started (R135, R152, R160, R161). -/
abbrev State.entersOnline (s t : State) : Prop :=
  t.ctl = { s.ctl with state := .online, listenTimer := none } ∧
  t.home = s.home ∧ t.req = s.req ∧ t.bus = s.bus ∧ t.port = s.port ∧
  t.dlv.requests = s.dlv.requests ∧ t.dlv.responses = s.dlv.responses ∧ t.dlv.presenceDue = true ∧
  t.dlv.leaveDue = s.dlv.leaveDue ∧
  t.roster.fresh = true ∧ t.roster.presenceTimer = some s.ctl.cfg.presenceInterval.toNat ∧
  (∀ p : Station, t.receiveRecord p = none) ∧
  ∀ p : Station, p ≠ s.own →
    t.sendRecord p = { nextSequence := s.ctl.cfg.epoch.setWidth 8, started := none, attempts := 0,
                       lastAnswer := .none, holdOff := none } ∧
    t.peer p = { s.peer p with
      syncOut := true, syncIn := true,
      silenceTimer := some (s.ctl.cfg.silenceLimit.toNat * s.ctl.cfg.presenceInterval.toNat) }

/-- An arbitrated frame that carries the own number is heard: the line, and the duplicate-number-seen flag (R92,
R94). -/
def State.duplicateHeard (s : State) : State :=
  { s.windowOpened (some s.own) with ctl := { s.ctl with duplicateSeen := true } }

/-- What an arbitrated frame makes of a station that does not answer it: one with the own number sets the
duplicate-number-seen flag; one of a peer in CONFIG changes the line only; and in JOINING either one has its effects,
those at the roster as given, and then the listen ends (R92 to R95, R112, R160). -/
abbrev State.unanswered (s : State) (f : Frame) (atRoster : State → State) (result : Result) : Prop :=
  (f.source = s.own → s.ctl.state ≠ .joining → result = .next s.duplicateHeard) ∧
  (f.source = s.own → s.ctl.state = .joining → ∃ t, result = .next t ∧ s.duplicateHeard.entersOnline t) ∧
  (f.source ≠ s.own → s.ctl.state = .config → result = .next (s.windowOpened (some f.source))) ∧
  (f.source ≠ s.own → s.ctl.state = .joining →
    ∃ t, result = .next t ∧ (atRoster (s.windowOpened (some f.source))).entersOnline t)

/-- An ACK that answers an attempt in flight: sent whole, its window open, addressed to the ACK's source, with the
sequence number echoed, and the ACK addressed to this station (R89). -/
abbrev Attempt.answeredBy (a : Attempt) (f : Frame) (own : Station) (echo : Byte) : Prop :=
  a.phase = .sentWhole ∧ (a.kind = .addressed f.source .request ∨ a.kind = .addressed f.source .response) ∧
    f.addressee = some own ∧ a.frame.sequence = echo

/-- The line after a transmission inside a window has been received: it has ended, and no ACK is due or going out
(R99, R101, R108; log 15). -/
def State.windowHeard (s : State) : State :=
  { s with bus := { s.bus with ackDue := none, ackSending := none, windowTransmission := false } }

/-- The open window can close: no transmission that began inside it is in progress (R100). -/
abbrev State.windowCanClose (s : State) : Prop :=
  s.ctl.resetAsserted = false ∧ s.bus.linePhase = .window ∧ s.bus.windowTransmission = false

/-- The state after a window has closed, its attempt over (R100, R102, R103). -/
def State.cycleBegun (s : State) : State :=
  { s with bus := { s.bus with
      linePhase := .cycle, positionCounter := some 1,
      ownPosition := some (ownPositionOf s.own s.bus.reference),
      attempt := none, ackDue := none, ackSending := none } }

/-- A send record replaced. -/
def State.sendNow (s : State) (d : Station) (r : SendRecord) : State :=
  { s with dlv := { s.dlv with send := vset s.dlv.send d r } }

/-! ## What a statement asks of the home map (R3, R4, R8) -/

/-- Range record k is selected by the range count (R3). -/
abbrev ConfigBlock.selects (c : ConfigBlock) (k : Fin 8) : Prop := k.val < c.rangeCount.toNat

/-- A number lies in range record k (R3). -/
abbrev ConfigBlock.inRange (c : ConfigBlock) (k : Fin 8) (n : Nat) : Prop :=
  (c.ranges.get k).first.toNat ≤ n ∧ n ≤ (c.ranges.get k).last.toNat

/-- The map START accepts (R3): a range count of 1 to 8, and in the selected records no first lock ID above the
last, no last above 4095, no home above 15 and no lock ID in two of them. -/
abbrev ConfigBlock.mapSound (c : ConfigBlock) : Prop :=
  1 ≤ c.rangeCount.toNat ∧ c.rangeCount.toNat ≤ 8 ∧
  (∀ k : Fin 8, c.selects k → (c.ranges.get k).first.toNat ≤ (c.ranges.get k).last.toNat ∧
    (c.ranges.get k).last.toNat ≤ 4095 ∧ (c.ranges.get k).home.toNat ≤ 15) ∧
  ∀ j k : Fin 8, c.selects j → c.selects k → j ≠ k → ∀ n : Nat, ¬ (c.inRange j n ∧ c.inRange k n)

/-- The bytes of range record k in the digest: three words, each most significant byte first (R8). -/
def ConfigBlock.rangeBytes (c : ConfigBlock) (k : Fin 8) : List Byte :=
  wordBytes (c.ranges.get k).first ++ wordBytes (c.ranges.get k).last ++ wordBytes (c.ranges.get k).home

/-! ## What a port read shows -/

/-- A value block in eight words: word k holds byte 2k in its high half and
byte 2k + 1 in its low half, and bytes beyond the length read 0 (R194). -/
abbrev showsValue (word : Nat → Word) (v : List Byte) : Prop :=
  ∀ k : Fin 8, word k.val = wordOf (v.getD (2 * k.val) 0#8) (v.getD (2 * k.val + 1) 0#8)

/-- A read at an address drives this word and changes nothing else (R167, R168). -/
abbrev State.reads (s : State) (a : PortAddr) (w : Word) : Prop :=
  s.takeCycle (.read a) = { s with port := { s.port with dataOut := some w } }

/-! ## The home table (R12 to R18) -/

/-- The stations among the holders and waiters of an entry. -/
def HomeEntry.stations (e : HomeEntry) : List Station :=
  e.holders.map Holder.station ++ e.waiters.map Waiter.station

/-- The laws of one entry: no station twice; the state follows the holders; no holder means no waiter and a
value; a SHARED lock's head waiter wants EXCLUSIVE; the generation is not 0; the value fits (R12 to R16). The
holders stand in the canonical order (log 22). -/
abbrev HomeEntry.lawful (e : HomeEntry) : Prop :=
  e.stations.Nodup ∧
  (e.holders.map (fun h => h.station.val)).Pairwise (· < ·) ∧
  (e.state = .free ↔ e.holders = []) ∧
  (e.state = .exclusive → e.holders.length = 1) ∧
  (e.holders = [] → e.waiters = [] ∧ e.value ≠ []) ∧
  (e.state = .shared → e.waiters.head?.map Waiter.mode ≠ some .shared) ∧
  e.generation ≠ 0#16 ∧
  e.value.length ≤ Config.valueBytes

/-- The laws of the table: one entry per lock, in canonical order, at most 256 entries (R14) and 128 waiter
records in use (R17), every entry lawful. -/
abbrev tableLawful (table : List HomeEntry) : Prop :=
  (table.map (fun e => e.lock.toNat)).Pairwise (· < ·) ∧
  table.length ≤ Config.homeEntries ∧
  waitersInUse table ≤ Config.waiterRecords ∧
  ∀ e ∈ table, e.lawful

/-- The value length a request carries; 0 for a kind that carries none. -/
def RequestBody.valueLength : RequestBody → Nat
  | .acquire _ _ _ _ => 0
  | .release _ _ _ _ v => v.length
  | .cancel _ _ => 0

/-- The value length of the frame a slot owes. -/
def SlotRecord.owedLength (r : SlotRecord) : Nat :=
  match r.owed with
  | some b => b.valueLength
  | none => 0

/-- The home controller's invariant: the table is lawful, the inbound request queue holds at most 8 requests
(R19), and every value on its way to the table is a value block (R11). -/
abbrev HomeInv (s : State) : Prop :=
  tableLawful s.home.table ∧
  s.home.inbound.length ≤ Config.inboundEntries ∧
  (∀ r ∈ s.home.inbound, r.body.valueLength ≤ Config.valueBytes) ∧
  (∀ e ∈ s.dlv.requests, e.body.valueLength ≤ Config.valueBytes) ∧
  ∀ t : Tag, s.slotIs t (fun r => decide (r.owedLength ≤ Config.valueBytes)) = true

/-! ## Slots and records (R44, R73, R74) -/

/-- The most records a slot can have in the completion queue in its state: none before a GRANT is applied, the
GRANTED record until the hold ends, two when finished (R74). -/
def SlotState.mostRecords : SlotState → Nat
  | .pending => 0
  | .waiting => 0
  | .held => 1
  | .releasing => 1
  | .cancelling => 0
  | .done => 2

/-- The slot holds a generation and value copy exactly in HELD and RELEASING (R44). -/
def SlotRecord.holdFits (r : SlotRecord) : Bool :=
  decide (r.hold.isSome = true ↔ (r.state = .held ∨ r.state = .releasing))

/-- Records pending of a slot; 0 when FREE (R44). -/
def State.recordsPendingOf (s : State) (t : Tag) : Nat :=
  match s.slot t with
  | some r => r.recordsPending
  | none => 0

/-- Records of a slot in the completion queue. -/
def State.recordsOf (s : State) (t : Tag) : Nat :=
  (s.req.completions.filter (fun c => decide (c.slot = t))).length

/-- The request controller's invariant: each slot's records pending is the number of its records in the queue
and within its state's bound, and its fields are present in the states R44 gives. -/
abbrev RecordInv (s : State) : Prop :=
  ∀ t : Tag, s.recordsOf t = s.recordsPendingOf t ∧
    s.slotIs t (fun r => decide (r.recordsPending ≤ r.state.mostRecords) && r.holdFits) = true

/-! ## Frames of slots (R46, R50) -/

/-- An owed frame is of the slot, and the slot is in the state the frame belongs to (R50). -/
def SlotRecord.owedFits (r : SlotRecord) (t : Tag) : Bool :=
  match r.owed with
  | none => true
  | some b => decide (b.tag = t ∧ b.lock = r.lock ∧ (r.state = .releasing ∨ r.state = .cancelling))

/-- The slot's ACQUIRE frame stands while it is PENDING, and some frame of it stands while it owes one or is DONE
with no record pending (R45, R50, R77). -/
def SlotRecord.framesFit (r : SlotRecord) (t : Tag) (q : List OutRequest) : Bool :=
  (decide (r.state ≠ .pending) || (acquireFrameOf t q).isSome) &&
  (r.owed.isNone || frameStands t q) && r.owedFits t &&
  (decide (r.state ≠ .done) || decide (r.recordsPending ≠ 0) || frameStands t q)

/-- The invariant of the outbound request queue: one frame per slot at most; a standing frame's slot is not
FREE, and the frame goes to the slot's home for the slot's lock; a lock has one slot at most (R46, R50). -/
abbrev FrameInv (s : State) : Prop :=
  (s.dlv.requests.map (fun e => e.body.tag)).Nodup ∧
  (∀ e ∈ s.dlv.requests,
    (s.slot e.body.tag).map (fun r => (r.home, r.lock)) = some (e.destination, e.body.lock)) ∧
  (∀ t : Tag, s.slotIs t (fun r => r.framesFit t s.dlv.requests) = true) ∧
  ∀ t u : Tag, t ≠ u → (s.slot t).map SlotRecord.lock = (s.slot u).map SlotRecord.lock → s.slot t = none

/-! ## Station states (R40, R153, R162, R165, R186) -/

/-- A WINDOW slot has no slot timer (R44, R48, R65). -/
def SlotRecord.timerFits (r : SlotRecord) : Bool := decide (r.origin = .window → r.timer = none)

/-- The stalled read's slot is a WINDOW slot in PENDING with a clear mark or in WAITING (R68). -/
def SlotRecord.awaitsRead (r : SlotRecord) : Bool :=
  decide (r.origin = .window ∧ ((r.state = .pending ∧ r.mark = false) ∨ r.state = .waiting))

/-- A read is stalled only in ONLINE, no data is driven meanwhile, and its slot awaits the outcome (R167, R186). -/
def State.stallFits (s : State) : Bool :=
  match s.port.window with
  | .idle => true
  | .stalled t _ =>
    decide (s.ctl.state = .online ∧ s.port.dataOut = none) &&
      (match s.slot t with
       | some r => r.awaitsRead
       | none => false)

/-- A LEAVE attempt whose outcome counts is in flight only in LEAVING (R86, R163). -/
def State.leaveAttemptFits (s : State) : Bool :=
  match s.bus.attempt with
  | none => true
  | some a => decide (a.kind = .leave → a.ignored = false → s.ctl.state = .leaving)

/-- The life cycle's invariant: outside ONLINE the home controller and both outbound queues are empty and no slot
is open (R40, R41, R71, R134); no WINDOW slot has a timer (R65); a stalled read fits; while RST- is asserted the
station is in CONFIG and drives no data (R165, R167). -/
abbrev LifeInv (s : State) : Prop :=
  (s.ctl.state ≠ .online →
    s.home = HomeController.empty ∧ s.dlv.requests = [] ∧ s.dlv.responses = [] ∧
      ∀ t : Tag, s.slotIs t (fun r => !r.isOpen) = true) ∧
  (∀ t : Tag, s.slotIs t SlotRecord.timerFits = true) ∧
  s.stallFits = true ∧
  s.leaveAttemptFits = true ∧
  (s.ctl.resetAsserted = true → s.ctl.state = .config ∧ s.port.dataOut = none)

/-! ## The line (R100 to R112) -/

/-- The attempt in flight is where the line phase says: still going out in FRAME, sent whole in WINDOW, stopped by
a mismatch in either; none in START-UP and in a cycle (R105, R106, R110, R112). -/
def BusAccess.attemptFits (b : BusAccess) : Bool :=
  match b.attempt with
  | none => true
  | some a =>
    match a.phase with
    | .sending => decide (b.linePhase = .frame)
    | .sentWhole => decide (b.linePhase = .window)
    | .collision => decide (b.linePhase = .frame ∨ b.linePhase = .window)

/-- The bus access unit's invariant: a cycle has a position counter from 1 to 16 and the own position R103
computes from the reference, no other phase has either; the attempt fits; an ACK is due or being sent only in a
window, and not both (R108); a transmission is in progress inside a window only while one is open, and then no ACK
is due or being sent (R100, R108); while RST- is asserted the phase is START-UP. -/
abbrev BusInv (s : State) : Prop :=
  (s.bus.linePhase = .cycle →
    s.bus.ownPosition = some (ownPositionOf s.own s.bus.reference) ∧
    s.bus.positionCounter.any (fun n => decide (1 ≤ n ∧ n ≤ Config.positions)) = true) ∧
  (s.bus.linePhase ≠ .cycle → s.bus.positionCounter = none ∧ s.bus.ownPosition = none) ∧
  s.bus.attemptFits = true ∧
  (s.bus.linePhase ≠ .window → s.bus.ackDue = none ∧ s.bus.ackSending = none) ∧
  (s.bus.ackDue = none ∨ s.bus.ackSending = none) ∧
  (s.bus.windowTransmission = true →
    s.bus.linePhase = .window ∧ s.bus.ackDue = none ∧ s.bus.ackSending = none) ∧
  (s.ctl.resetAsserted = true → s.bus.linePhase = .startUp)

/-! ## Peers, links and walks (R33 to R36, R137, R141, R142) -/

/-- An attempt of an addressed frame whose outcome counts goes to a PRESENT peer, in ONLINE (R118, R125, R151). -/
def State.addressedAttemptFits (s : State) : Bool :=
  match s.bus.attempt with
  | none => true
  | some a =>
    match a.kind with
    | .addressed d _ =>
      decide (a.ignored = false → d ≠ s.own ∧ (s.peer d).state = .present ∧ s.ctl.state = .online)
    | .presence => true
    | .leave => true

/-- A station that is neither ABSENT nor MISMATCHED, or is this station. -/
def State.reachable (s : State) (d : Station) : Bool :=
  decide (d = s.own ∨ ((s.peer d).state ≠ .absent ∧ (s.peer d).state ≠ .mismatched))

/-- The walk has removed its station from every entry below its position and has an entry left (R35, R36). -/
def State.walkFits (s : State) : Bool :=
  match s.home.walk with
  | none => decide (s.home.pendingPurge = [])
  | some w =>
    w.goesOn s.home.table && decide (w.station ≠ s.own) &&
      s.home.table.all (fun e => decide (w.position ≤ e.lock.toNat) || !e.involves w.station)

/-- The invariant of the links to the peers: a peer that is not PRESENT has both sync flags set (R141, R142);
no frame stands to a peer that is ABSENT or MISMATCHED and no open slot is homed there (R137, R139); responses
stand only to PRESENT peers (R22); the pending-purge set and the walk fit (R33 to R36); while RST- is asserted the
roster is the one a reset leaves (R152, R165). -/
abbrev PeerInv (s : State) : Prop :=
  s.addressedAttemptFits = true ∧
  (∀ p : Station, p ≠ s.own → (s.peer p).state ≠ .present →
    (s.peer p).syncOut = true ∧ (s.peer p).syncIn = true) ∧
  (∀ t : Tag, s.slotIs t (fun r => !r.isOpen || s.reachable r.home) = true) ∧
  (∀ e ∈ s.dlv.requests, s.reachable e.destination = true) ∧
  (∀ e ∈ s.dlv.responses, e.destination ≠ s.own ∧ (s.peer e.destination).state = .present) ∧
  s.home.pendingPurge.Pairwise (fun p q => p.val < q.val) ∧
  s.own ∉ s.home.pendingPurge ∧
  s.walkFits = true ∧
  (s.ctl.resetAsserted = true → s.roster = PeerRoster.unheard)

end Sys2Proof.Machine
end

