-- ==== Sys2Proof/Certificates/Slice0/Obligations.lean ====
section
/-! DEFINITION. The statements for the provers. Each says what one command, one table operation or the whole
machine does, in the words of the rules it names in OBLIGATIONS.json; where it rests on a choice of the model, its
docstring names the log entry. -/

open Sys2Proof Sys2Proof.Machine

/-! ## The queue, the port and the resets -/

/-- A step runs the command at the front of the queue on the state with the queue's rest; with no command waiting
the block idles (log 4, log 24). -/
def Obligations.StepRunsFrontCommand : Prop :=
  (∀ (s : State) (c : Instr) (rest : List Instr),
    step { s with pending := c :: rest } = exec c { s with pending := rest }) ∧
  ∀ s : State, s.pending = [] → step s = .next s

/-- Every command answers a next state: one whose event cannot take place changes nothing (log 5). No command, a reset
included, touches the queue of waiting commands (log 24). -/
def Obligations.EveryCommandCompletes : Prop :=
  ∀ (c : Instr) (s : State), ∃ t, exec c s = .next t ∧ t.pending = s.pending

/-- A power-on reset puts every block at its reset values, from any state (R164). That RST- is not asserted after it is
log 8, and that the records kept for the own number take the values of a peer's is log 23. -/
def Obligations.PowerOnResetValues : Prop :=
  ∀ (straps : Straps) (s : State), ∃ t, exec (.powerOnReset straps) s = .next t ∧
    t.ctl = { state := .config, number := straps.stationNumber, rateClass := straps.rateClass,
              resetCause := .powerOn, lastStartRefusal := .none, duplicateSeen := false, mapActive := false,
              cfg := t.ctl.cfg, activeMap := [], digest := 0#16, previousEpoch := none, listenTimer := none,
              leavingTimer := none, resetAsserted := false } ∧
    t.ctl.cfg.epoch = 0#16 ∧ t.ctl.cfg.presenceInterval = 0#16 ∧ t.ctl.cfg.silenceLimit = 0#16 ∧
    t.ctl.cfg.windowWaitLimit = 0#16 ∧ t.ctl.cfg.rangeCount = 0#16 ∧
    (∀ k : Fin 8, t.ctl.cfg.ranges.get k = { first := 0#16, last := 0#16, home := 0#16 }) ∧
    t.home = { table := [], inbound := [], pendingPurge := [], walk := none } ∧
    (∀ u : Tag, t.slot u = none) ∧ t.req.completions = [] ∧
    t.bus = { linePhase := .startUp, positionCounter := none, ownPosition := none, reference := none,
              attempt := none, ackDue := none, ackSending := none, windowTransmission := false } ∧
    t.dlv.requests = [] ∧ t.dlv.responses = [] ∧ t.dlv.presenceDue = false ∧ t.dlv.leaveDue = false ∧
    (∀ p : Station, t.sendRecord p =
        { nextSequence := 0#8, started := none, attempts := 0, lastAnswer := .none, holdOff := none } ∧
      t.receiveRecord p = none ∧
      t.peer p = { state := .unknown, epoch := none, silenceTimer := none, syncOut := true, syncIn := true }) ∧
    t.roster.presenceTimer = none ∧ t.roster.fresh = false ∧
    (∀ i : Fin 14, t.staged i = 0#16) ∧ t.port.result = .none ∧ t.port.interruptEnable = false ∧
    t.port.probeLock = 0#16 ∧ t.port.window = .idle ∧ t.port.lastGrant = { generation := 0#16, value := [] } ∧
    t.rdyHigh = true ∧ t.irqActive = false

/-- A port reset takes the values of a power-on reset, but for the previous epoch and the reset cause (R157,
R165); until RST- is released the straps' values stay and RST- is held asserted (log 2). The release samples the
straps and changes nothing else; it comes only while RST- is asserted (R154, log 5). -/
def Obligations.PortResetAndRelease : Prop :=
  ∀ (s : State) (straps : Straps),
    (∃ u, exec (.powerOnReset { stationNumber := s.ctl.number, rateClass := s.ctl.rateClass }) s = .next u ∧
      exec .portReset s = .next { u with ctl := { u.ctl with
        previousEpoch := if s.ctl.state = .config then s.ctl.previousEpoch else some s.ctl.cfg.epoch,
        resetCause := .portReset, resetAsserted := true } }) ∧
    (s.ctl.resetAsserted = true → exec (.portResetRelease straps) s = .next { s with ctl := { s.ctl with
      number := straps.stationNumber, rateClass := straps.rateClass, resetAsserted := false } }) ∧
    (s.ctl.resetAsserted = false → exec (.portResetRelease straps) s = .next s)

/-- While RST- is asserted no command but a reset and its release changes anything (R165; log 7); while a read is
stalled the port takes no write, no submission, no pop and no further read (R167, R186; log 11). In both cases a cycle
changes nothing, whatever the pins show, and drives no word (R167). -/
def Obligations.NoCommandTaken : Prop :=
  (∀ (c : Instr) (s : State), s.ctl.resetAsserted = true → c ≠ .portReset → (∀ x, c ≠ .powerOnReset x) →
    (∀ x, c ≠ .portResetRelease x) → exec c s = .next s) ∧
  (∀ (s : State) (pins : PortPins), ¬ s.portFree → s.takeCycle pins = s ∧ (LifeInv s → s.port.dataOut = none)) ∧
  ∀ (s : State) (t : Tag) (n : Nat) (v : Word) (a : PortAddr) (m : LockMode) (l : LockId),
    s.port.window = .stalled t n →
    exec .acquire s = .next s ∧ exec .release s = .next s ∧ exec .cancel s = .next s ∧ exec .start s = .next s ∧
    exec .leave s = .next s ∧ exec (.pop v) s = .next s ∧ exec (.interruptEnable v) s = .next s ∧
    exec (.registerWrite a v) s = .next s ∧ exec (.acquireWindowRead m l) s = .next s ∧
    exec (.releaseWindowWrite l v) s = .next s

/-! ## Submissions -/

/-- An ACQUIRE that passes every check opens the lowest FREE slot and appends its ACQUIRE frame (R46, R47,
R174); nothing else changes. -/
def Obligations.AcquireOpensSlot : Prop :=
  ∀ (s : State) (l : LockId) (m : LockMode) (w : WaitKind) (h : Station) (t : Tag),
    s.portFree → s.ctl.state = .online → s.stagedLock = some l → s.stagedMode = some m → s.stagedWait = some w →
    homeOf s.ctl.activeMap l = some h → s.lockUnused l → s.homeUsable h → s.isLowestFree t →
    exec .acquire s = .next { s with
      req := { s.req with slots := vset s.req.slots t (some
        { state := .pending, lock := l, mode := m, origin := .command, home := h,
          timer := if s.staged 3 = 0#16 then none else some (s.staged 3).toNat,
          cancelCause := .none, mark := false, hold := none, recordsPending := 0, owed := none }) },
      dlv := { s.dlv with requests := s.dlv.requests ++ [{ destination := h, body := .acquire l t m w }] },
      port := { s.port with result := .accepted, dataOut := none } }

/-- A refused ACQUIRE changes nothing but the submission result, and the first check that applies names it
(R173, R174). -/
def Obligations.AcquireRefused : Prop :=
  ∀ s : State, s.portFree →
    (s.ctl.state ≠ .online → exec .acquire s = .next (s.answered .notOnline)) ∧
    (s.ctl.state = .online →
      (4095 < (s.staged 0).toNat ∨ (s.staged 1 ≠ 1#16 ∧ s.staged 1 ≠ 2#16) ∨
          (s.staged 2 ≠ 1#16 ∧ s.staged 2 ≠ 2#16) → exec .acquire s = .next (s.answered .badField)) ∧
      ((s.staged 0).toNat ≤ 4095 → (s.staged 1 = 1#16 ∨ s.staged 1 = 2#16) →
          (s.staged 2 = 1#16 ∨ s.staged 2 = 2#16) →
        (homeOf s.ctl.activeMap ((s.staged 0).setWidth 12) = none →
          exec .acquire s = .next (s.answered .unmapped)) ∧
        ∀ h, homeOf s.ctl.activeMap ((s.staged 0).setWidth 12) = some h →
          (¬ s.lockUnused ((s.staged 0).setWidth 12) → exec .acquire s = .next (s.answered .duplicate)) ∧
          (s.lockUnused ((s.staged 0).setWidth 12) →
            (¬ s.homeUsable h → exec .acquire s = .next (s.answered .homeUnavailable)) ∧
            (s.homeUsable h → (∀ u : Tag, s.slot u ≠ none) → exec .acquire s = .next (s.answered .noSlot)))))

/-- A RELEASE of a HELD slot moves it to RELEASING, with the RELEASE frame appended, or owed while a frame of
the slot stands (R50, R59, R175). -/
def Obligations.ReleaseTaken : Prop :=
  ∀ (s : State) (l : LockId) (u : Bool) (v : List Byte) (t : Tag) (r : SlotRecord) (k : Hold),
    s.portFree → s.ctl.state = .online → s.stagedLock = some l → s.stagedUpdate = some (u, v) →
    s.slot t = some r → r.lock = l → s.onlySlot t l → r.state = .held → r.hold = some k →
    exec .release s = .next
      (if frameStands t s.dlv.requests then { s with
        req := { s.req with slots := vset s.req.slots t (some
          { r with state := .releasing, owed := some (.release l t k.generation u v) }) },
        port := { s.port with result := .accepted, dataOut := none } }
      else { s with
        req := { s.req with slots := vset s.req.slots t (some { r with state := .releasing }) },
        dlv := { s.dlv with
          requests := s.dlv.requests ++ [{ destination := r.home, body := .release l t k.generation u v }] },
        port := { s.port with result := .accepted, dataOut := none } })

/-- A CANCEL of a WAITING slot sends a CANCEL frame, or owes it (R61, R62, R176). -/
def Obligations.CancelOfWaitingSlot : Prop :=
  ∀ (s : State) (l : LockId) (t : Tag) (r : SlotRecord),
    s.portFree → s.ctl.state = .online → s.stagedLock = some l → s.slot t = some r → r.lock = l →
    s.onlySlot t l → r.state = .waiting →
    exec .cancel s = .next
      (if frameStands t s.dlv.requests then { s with
        req := { s.req with slots := vset s.req.slots t (some
          { r with state := .cancelling, cancelCause := .software, timer := none, owed := some (.cancel l t) }) },
        port := { s.port with result := .accepted, dataOut := none } }
      else { s with
        req := { s.req with slots := vset s.req.slots t (some
          { r with state := .cancelling, cancelCause := .software, timer := none }) },
        dlv := { s.dlv with requests := s.dlv.requests ++ [{ destination := r.home, body := .cancel l t }] },
        port := { s.port with result := .accepted, dataOut := none } })

/-- A CANCEL of a PENDING slot: with its ACQUIRE frame withdrawable, never started or last answered BUSY or
UNHEARD with no attempt of it in flight, the frame is withdrawn and the slot finishes CANCELLED UNSENT; otherwise the
mark is set (R61, R63, R127, R176). -/
def Obligations.CancelOfPendingSlot : Prop :=
  ∀ (s : State) (l : LockId) (t : Tag) (r : SlotRecord) (e : OutRequest),
    s.portFree → s.ctl.state = .online → s.stagedLock = some l → s.slot t = some r → r.lock = l →
    s.onlySlot t l → r.state = .pending → r.mark = false → acquireFrameOf t s.dlv.requests = some e →
    let unsent : RequestController :=
      { slots := vset s.req.slots t (some { r with
          state := .done, cancelCause := .software, timer := none, mark := false, hold := none, owed := none,
          recordsPending := r.recordsPending + 1 }),
        completions := s.req.completions ++ [
          { kind := .cancelled, reason := .unsent, origin := r.origin, slot := t, lock := r.lock,
            mode := r.mode, generation := 0#16, value := [] }] }
    (¬ s.frameStarted e → exec .cancel s = .next { s with
      req := unsent,
      dlv := { s.dlv with requests := s.dlv.requests.filter (fun x => decide (x.body.tag ≠ t)) },
      port := { s.port with result := .accepted, dataOut := none } }) ∧
    (s.frameStarted e → ¬ s.frameInFlight e → (s.sendRecord e.destination).lastAnswer ≠ .none →
      exec .cancel s = .next { s with
        req := unsent,
        dlv := { s.dlv with
          requests := s.dlv.requests.filter (fun x => decide (x.body.tag ≠ t)),
          send := vset s.dlv.send e.destination (s.sendRecord e.destination).unstarted },
        port := { s.port with result := .accepted, dataOut := none } }) ∧
    (s.frameStarted e → s.frameInFlight e ∨ (s.sendRecord e.destination).lastAnswer = .none →
      exec .cancel s = .next { s with
        req := { s.req with slots := vset s.req.slots t (some
          { r with mark := true, cancelCause := .software, timer := none }) },
        port := { s.port with result := .accepted, dataOut := none } })

/-- A refused RELEASE or CANCEL changes nothing but the submission result, and the first check that applies names
it (R173, R175, R176). -/
def Obligations.ReleaseAndCancelRefused : Prop :=
  ∀ s : State, s.portFree →
    (s.ctl.state ≠ .online →
      exec .release s = .next (s.answered .notOnline) ∧ exec .cancel s = .next (s.answered .notOnline)) ∧
    (s.ctl.state = .online →
      (4095 < (s.staged 0).toNat ∨ (s.staged 4 ≠ 0#16 ∧ s.staged 4 ≠ 1#16) ∨
          (s.staged 4 = 1#16 ∧ 16 < (s.staged 5).toNat) → exec .release s = .next (s.answered .badField)) ∧
      (4095 < (s.staged 0).toNat → exec .cancel s = .next (s.answered .badField)) ∧
      ((s.staged 0).toNat ≤ 4095 →
        (s.lockUnused ((s.staged 0).setWidth 12) → exec .cancel s = .next (s.answered .notOpen) ∧
          (s.staged 4 = 0#16 ∨ (s.staged 4 = 1#16 ∧ (s.staged 5).toNat ≤ 16) →
            exec .release s = .next (s.answered .notOpen))) ∧
        ∀ (t : Tag) (r : SlotRecord), s.slot t = some r → r.lock = (s.staged 0).setWidth 12 →
          s.onlySlot t r.lock →
          ((r.state = .pending ∧ r.mark = true) ∨ r.state = .held ∨ r.state = .releasing ∨
            r.state = .cancelling ∨ r.state = .done → exec .cancel s = .next (s.answered .notWaiting)) ∧
          (r.state ≠ .held → (s.staged 4 = 0#16 ∨ (s.staged 4 = 1#16 ∧ (s.staged 5).toNat ≤ 16)) →
            exec .release s = .next (s.answered .notHeld))))

/-- A START that passes its checks takes the map, its digest and the cleared roster, starts the listen timer and
enters JOINING; slots, queues and the line stay as they are (R158). The map taken gives each lock ID in a selected
range that range's home and no other lock ID one (R3, R4). The digest is the CRC over the selected ranges in ascending
order of their first lock IDs (R8), and so depends on the set of the selected ranges only. -/
def Obligations.StartEntersJoining : Prop :=
  (∀ s : State, s.portFree → s.ctl.state = .config → s.ctl.cfg.epoch ≠ 0#16 →
    s.ctl.previousEpoch ≠ some s.ctl.cfg.epoch → s.ctl.cfg.timingOk = true → s.ctl.cfg.mapSound →
    ∃ t, exec .start s = .next t ∧
      t.ctl = { s.ctl with
        state := .joining, activeMap := s.ctl.cfg.toMap, digest := mapDigest s.ctl.cfg.toMap, mapActive := true,
        lastStartRefusal := .none, duplicateSeen := false,
        listenTimer := some (s.ctl.cfg.silenceLimit.toNat * s.ctl.cfg.presenceInterval.toNat) } ∧
      (∀ p : Station, p ≠ s.own → t.peer p =
        { state := .unknown, epoch := none, silenceTimer := none, syncOut := true, syncIn := true }) ∧
      t.roster.presenceTimer = none ∧ t.roster.fresh = false ∧
      t.home = s.home ∧ t.req = s.req ∧ t.dlv = s.dlv ∧ t.bus = s.bus ∧
      t.port = { s.port with result := .started, dataOut := none } ∧
      (∀ (l : LockId) (h : Station), homeOf t.ctl.activeMap l = some h ↔
        ∃ k : Fin 8, s.ctl.cfg.selects k ∧ s.ctl.cfg.inRange k l.toNat ∧ (s.ctl.cfg.ranges.get k).home.toNat = h.val) ∧
      ∃ order : List (Fin 8), (∀ k, k ∈ order ↔ s.ctl.cfg.selects k) ∧
        order.Pairwise (fun j k => (s.ctl.cfg.ranges.get j).first.toNat < (s.ctl.cfg.ranges.get k).first.toNat) ∧
        t.ctl.digest = crc16 (order.flatMap s.ctl.cfg.rangeBytes)) ∧
  ∀ c d : ConfigBlock, c.mapSound → d.mapSound →
    (∀ r : RangeRecord, (∃ k, c.selects k ∧ c.ranges.get k = r) ↔ ∃ k, d.selects k ∧ d.ranges.get k = r) →
    mapDigest c.toMap = mapDigest d.toMap

/-- A refused START changes only the submission result and, in CONFIG, the last start refusal, by the first check
that fails: the epoch, the timing, the map (R3, R156); a LEAVE outside ONLINE changes only the submission result
(R162). -/
def Obligations.StartAndLeaveRefused : Prop :=
  ∀ s : State, s.portFree →
    (s.ctl.state ≠ .online → exec .leave s = .next (s.answered .notOnline)) ∧
    (s.ctl.state ≠ .config → exec .start s = .next (s.answered .notInConfig)) ∧
    (s.ctl.state = .config →
      (s.ctl.cfg.epoch = 0#16 ∨ s.ctl.previousEpoch = some s.ctl.cfg.epoch → exec .start s =
        .next { s.answered .badEpoch with ctl := { s.ctl with lastStartRefusal := .badEpoch } }) ∧
      (s.ctl.cfg.epoch ≠ 0#16 → s.ctl.previousEpoch ≠ some s.ctl.cfg.epoch →
        (¬ (1 ≤ s.ctl.cfg.presenceInterval.toNat ∧ s.ctl.cfg.presenceInterval.toNat ≤ 250 ∧
            2 ≤ s.ctl.cfg.silenceLimit.toNat ∧ s.ctl.cfg.silenceLimit.toNat ≤ 8 ∧
            1 ≤ s.ctl.cfg.windowWaitLimit.toNat ∧ s.ctl.cfg.windowWaitLimit.toNat ≤ 255) → exec .start s =
          .next { s.answered .badTiming with ctl := { s.ctl with lastStartRefusal := .badTiming } }) ∧
        (s.ctl.cfg.timingOk = true → ¬ s.ctl.cfg.mapSound → exec .start s =
          .next { s.answered .badMap with ctl := { s.ctl with lastStartRefusal := .badMap } })))

/-- LEAVE in ONLINE enters LEAVING: the timer starts, the home controller and both outbound queues are emptied,
every open slot is LOST with LOCAL_LEAVE, leave-due is set (R71, R134, R162). The records of one event stand in
ascending slot order (log 6), which this statement leaves open: it says how many each slot gets. That a lost slot has
its mark clear is log 21, and that the send record kept for the own number follows the others log 23. -/
def Obligations.LeaveEntersLeaving : Prop :=
  ∀ s : State, s.portFree → s.ctl.state = .online → ∃ t, exec .leave s = .next t ∧
    t.ctl = { s.ctl with state := .leaving, leavingTimer := some s.ctl.cfg.presenceInterval.toNat } ∧
    t.home = { table := [], inbound := [], pendingPurge := [], walk := none } ∧
    t.dlv.requests = [] ∧ t.dlv.responses = [] ∧ t.dlv.presenceDue = false ∧ t.dlv.leaveDue = true ∧
    t.dlv.receive = s.dlv.receive ∧
    (∀ p : Station, t.sendRecord p =
      { nextSequence := (s.sendRecord p).nextSequence, started := none, attempts := 0, lastAnswer := .none,
        holdOff := none }) ∧
    t.roster = { s.roster with presenceTimer := none, fresh := false } ∧
    t.bus = { s.bus with attempt := s.bus.attempt.map (fun a => { a with ignored := true }) } ∧
    t.port = { s.port with result := .leaving, dataOut := none } ∧
    (∀ (u : Tag) (r : SlotRecord), s.slot u = some r → r.isOpen = true →
      (r.origin = .command ∨ r.state = .held ∨ r.state = .releasing →
        t.slot u = some { r.ended with recordsPending := r.recordsPending + 1 }) ∧
      (r.origin = .window → r.state ≠ .held → r.state ≠ .releasing → t.slot u = r.endedQuietly false)) ∧
    (∀ (u : Tag) (r : SlotRecord), s.slot u = some r → r.state = .done →
      t.slot u = r.doneAfter false) ∧
    (∀ u : Tag, s.slot u = none → t.slot u = none) ∧
    ∃ lost : List CompletionRecord, t.req.completions = s.req.completions ++ lost ∧
      ∀ u : Tag, lost.filter (fun c => decide (c.slot = u)) = s.lostRecordsOf u (fun _ => true) .localLeave

/-- A pop removes the head record and lowers its slot's count; a DONE slot with no record and no frame left
becomes FREE; an open slot keeps its state; an empty queue ignores it (R76, R77, R179). -/
def Obligations.PopTakesHead : Prop :=
  ∀ (s : State) (v : Word), s.portFree →
    (s.req.completions = [] → exec (.pop v) s = .next s.cycleTaken) ∧
    ∀ (c : CompletionRecord) (cs : List CompletionRecord) (r : SlotRecord), s.req.completions = c :: cs →
      s.slot c.slot = some r →
      exec (.pop v) s = .next { s.cycleTaken with req := {
        completions := cs,
        slots := vset s.req.slots c.slot
          (if r.state = .done ∧ r.recordsPending ≤ 1 ∧ frameStands c.slot s.dlv.requests = false then none
           else some { r with recordsPending := r.recordsPending - 1 }) } }

/-- A write to 002h sets the enable for any value but 0 and clears it for 0, in every station state; the word
reads 1 or 0; IRQ- is active exactly while the enable is set and the completion queue holds a record
(R170). -/
def Obligations.InterruptEnableAndOutput : Prop :=
  ∀ (s : State) (v : Word),
    (s.portFree → exec (.interruptEnable v) s = .next { s with port := { s.port with
      interruptEnable := decide (v ≠ 0#16), dataOut := none } }) ∧
    (s.portFree → s.reads 0x002#14 (if s.port.interruptEnable = true then 1#16 else 0#16)) ∧
    (s.irqActive = true ↔ s.port.interruptEnable = true ∧ s.req.completions ≠ [])

/-! ## Register words and windows -/

/-- A write of a configuration word is stored in CONFIG and ignored elsewhere; staging words and the probe lock
ID are stored in every state (R155, R171, R172, R183). -/
def Obligations.RegisterWriteStores : Prop :=
  ∀ (s : State) (v : Word), s.portFree →
    (s.ctl.state = .config →
      exec (.registerWrite 0x008#14 v) s =
        .next { s.cycleTaken with ctl := { s.ctl with cfg := { s.ctl.cfg with epoch := v } } } ∧
      exec (.registerWrite 0x009#14 v) s =
        .next { s.cycleTaken with ctl := { s.ctl with cfg := { s.ctl.cfg with presenceInterval := v } } } ∧
      exec (.registerWrite 0x00A#14 v) s =
        .next { s.cycleTaken with ctl := { s.ctl with cfg := { s.ctl.cfg with silenceLimit := v } } } ∧
      exec (.registerWrite 0x00B#14 v) s =
        .next { s.cycleTaken with ctl := { s.ctl with cfg := { s.ctl.cfg with windowWaitLimit := v } } } ∧
      exec (.registerWrite 0x00C#14 v) s =
        .next { s.cycleTaken with ctl := { s.ctl with cfg := { s.ctl.cfg with rangeCount := v } } } ∧
      ∀ k : Fin 8,
        exec (.registerWrite (BitVec.ofNat 14 (0x010 + 3 * k.val)) v) s =
          .next { s.cycleTaken with ctl := { s.ctl with cfg := { s.ctl.cfg with
            ranges := vset s.ctl.cfg.ranges k { s.ctl.cfg.ranges.get k with first := v } } } } ∧
        exec (.registerWrite (BitVec.ofNat 14 (0x011 + 3 * k.val)) v) s =
          .next { s.cycleTaken with ctl := { s.ctl with cfg := { s.ctl.cfg with
            ranges := vset s.ctl.cfg.ranges k { s.ctl.cfg.ranges.get k with last := v } } } } ∧
        exec (.registerWrite (BitVec.ofNat 14 (0x012 + 3 * k.val)) v) s =
          .next { s.cycleTaken with ctl := { s.ctl with cfg := { s.ctl.cfg with
            ranges := vset s.ctl.cfg.ranges k { s.ctl.cfg.ranges.get k with home := v } } } }) ∧
    (s.ctl.state ≠ .config → ∀ a : PortAddr,
      (0x008 ≤ a.toNat ∧ a.toNat ≤ 0x00C ∨ 0x010 ≤ a.toNat ∧ a.toNat ≤ 0x027) →
        exec (.registerWrite a v) s = .next s.cycleTaken) ∧
    (∀ i : Fin 14, exec (.registerWrite (BitVec.ofNat 14 (0x030 + i.val)) v) s =
      .next { s with port := { s.port with staging := vset s.port.staging i v, dataOut := none } }) ∧
    exec (.registerWrite 0x050#14 v) s =
      .next { s with port := { s.port with probeLock := v, dataOut := none } }

/-- What was stored in a configuration word in CONFIG, a staging word or the probe word is what the word then
reads (R155, R171, R172, R183). -/
def Obligations.RegisterReadsBack : Prop :=
  ∀ (s : State) (a : PortAddr) (v : Word), s.portFree →
    ((s.ctl.state = .config ∧
        (0x008 ≤ a.toNat ∧ a.toNat ≤ 0x00C ∨ 0x010 ≤ a.toNat ∧ a.toNat ≤ 0x027)) ∨
      (0x030 ≤ a.toNat ∧ a.toNat ≤ 0x03D) ∨ a.toNat = 0x050) →
    ∃ t, exec (.registerWrite a v) s = .next t ∧ t.reads a v

/-- A write to a word marked Ignored, in a gap of the map or in an acquire window changes nothing, and so does a
submission of a code that names no command (R168, R173). A cycle with both strobes asserted is neither a read nor a
write: it drives no data and changes nothing (R167). -/
def Obligations.RegisterWriteIgnored : Prop :=
  (∀ (s : State) (a : PortAddr) (v : Word), s.portFree →
    (a.toNat = 0x000 ∨ a.toNat = 0x001 ∨ (0x003 ≤ a.toNat ∧ a.toNat ≤ 0x007) ∨
      (0x00D ≤ a.toNat ∧ a.toNat ≤ 0x00F) ∨ (0x028 ≤ a.toNat ∧ a.toNat ≤ 0x02F) ∨
      (0x03F ≤ a.toNat ∧ a.toNat ≤ 0x04B) ∨ (0x04D ≤ a.toNat ∧ a.toNat ≤ 0x04F) ∨
      (0x051 ≤ a.toNat ∧ a.toNat ≤ 0x2FFF) ∨ (a.toNat = 0x03E ∧ (v = 0#16 ∨ 5 < v.toNat))) →
    exec (.registerWrite a v) s = .next s.cycleTaken) ∧
  ∀ (s : State) (pins : PortPins), s.portFree → pins.rd = true → pins.wr = true → s.takeCycle pins = s.cycleTaken

/-- A window read that passes every check opens the lowest FREE slot for a QUEUE acquire with no timer, appends
its ACQUIRE frame and stalls with the configured wait limit (R48, R185, R186, R189). -/
def Obligations.WindowReadStalls : Prop :=
  ∀ (s : State) (m : LockMode) (l : LockId) (h : Station) (t : Tag),
    s.portFree → s.ctl.state = .online → homeOf s.ctl.activeMap l = some h → s.lockUnused l → s.homeUsable h →
    s.isLowestFree t →
    exec (.acquireWindowRead m l) s = .next { s with
      req := { s.req with slots := vset s.req.slots t (some
        { state := .pending, lock := l, mode := m, origin := .window, home := h, timer := none,
          cancelCause := .none, mark := false, hold := none, recordsPending := 0, owed := none }) },
      dlv := { s.dlv with requests := s.dlv.requests ++ [{ destination := h, body := .acquire l t m .queue }] },
      port := { s.port with window := .stalled t s.ctl.cfg.windowWaitLimit.toNat, dataOut := none } }

/-- A window read refused at once returns its result word and changes nothing else; the first check that applies
names the outcome (R185, R187). -/
def Obligations.WindowReadRefused : Prop :=
  ∀ (s : State) (m : LockMode) (l : LockId), s.portFree →
    (s.ctl.state ≠ .online → exec (.acquireWindowRead m l) s = .next (s.readRefused .notOnline)) ∧
    (s.ctl.state = .online →
      (homeOf s.ctl.activeMap l = none → exec (.acquireWindowRead m l) s = .next (s.readRefused .unmapped)) ∧
      ∀ h, homeOf s.ctl.activeMap l = some h →
        (¬ s.lockUnused l → exec (.acquireWindowRead m l) s = .next (s.readRefused .duplicate)) ∧
        (s.lockUnused l →
          (¬ s.homeUsable h → exec (.acquireWindowRead m l) s = .next (s.readRefused .homeUnavailable)) ∧
          (s.homeUsable h → (∀ u : Tag, s.slot u ≠ none) →
            exec (.acquireWindowRead m l) s = .next (s.readRefused .noSlot))))

/-- A release-window write releases a HELD slot without update, with the RELEASE frame appended or owed; any
other changes nothing (R60, R192). -/
def Obligations.ReleaseWindowWrite : Prop :=
  ∀ (s : State) (l : LockId) (v : Word), s.portFree →
    (∀ (t : Tag) (r : SlotRecord) (k : Hold), s.ctl.state = .online → s.slot t = some r → r.lock = l →
      s.onlySlot t l → r.state = .held → r.hold = some k →
      exec (.releaseWindowWrite l v) s = .next
        (if frameStands t s.dlv.requests then { s.cycleTaken with
          req := { s.req with
            slots := vset s.req.slots t (some
              { r with state := .releasing, owed := some (.release l t k.generation false []) }) } }
        else { s.cycleTaken with
          req := { s.req with slots := vset s.req.slots t (some { r with state := .releasing }) },
          dlv := { s.dlv with
            requests := s.dlv.requests ++
              [{ destination := r.home, body := .release l t k.generation false [] }] } })) ∧
    ((s.ctl.state ≠ .online ∨ ∀ u : Tag, s.slotIs u (fun r => decide (r.lock ≠ l ∨ r.state ≠ .held)) = true) →
      exec (.releaseWindowWrite l v) s = .next s.cycleTaken)

/-- At the wait limit the stalled read ends with TIMEOUT (0300h), and its slot is cancelled with WINDOW_LIMIT: a
WAITING slot sends a CANCEL; a PENDING slot whose frame is withdrawable loses the frame and becomes FREE with no
record, and any other PENDING slot gets the mark (R63, R68, R189). -/
def Obligations.WaitLimitEndsRead : Prop :=
  ∀ (s : State) (t : Tag) (n : Nat) (r : SlotRecord), s.working → s.port.window = .stalled t n →
    s.slot t = some r →
    (r.state = .waiting → frameStands t s.dlv.requests = false →
      exec .windowWaitLimitExpiry s = .next { s with
        req := { s.req with slots := vset s.req.slots t (some
          { r with state := .cancelling, cancelCause := .windowLimit, timer := none }) },
        dlv := { s.dlv with requests := s.dlv.requests ++ [{ destination := r.home, body := .cancel r.lock t }] },
        port := { s.port with window := .idle, dataOut := some 0x0300#16 } }) ∧
    (∀ e : OutRequest, r.state = .pending → r.mark = false → acquireFrameOf t s.dlv.requests = some e →
      (¬ s.frameStarted e → r.recordsPending = 0 → exec .windowWaitLimitExpiry s = .next { s with
        req := { s.req with slots := vset s.req.slots t none },
        dlv := { s.dlv with requests := s.dlv.requests.filter (fun x => decide (x.body.tag ≠ t)) },
        port := { s.port with window := .idle, dataOut := some 0x0300#16 } }) ∧
      (s.frameStarted e → ¬ s.frameInFlight e → (s.sendRecord e.destination).lastAnswer ≠ .none →
        r.recordsPending = 0 → exec .windowWaitLimitExpiry s = .next { s with
          req := { s.req with slots := vset s.req.slots t none },
          dlv := { s.dlv with
            requests := s.dlv.requests.filter (fun x => decide (x.body.tag ≠ t)),
            send := vset s.dlv.send e.destination (s.sendRecord e.destination).unstarted },
          port := { s.port with window := .idle, dataOut := some 0x0300#16 } }) ∧
      (s.frameStarted e → s.frameInFlight e ∨ (s.sendRecord e.destination).lastAnswer = .none →
        exec .windowWaitLimitExpiry s = .next { s with
          req := { s.req with slots := vset s.req.slots t (some
            { r with mark := true, cancelCause := .windowLimit, timer := none }) },
          port := { s.port with window := .idle, dataOut := some 0x0300#16 } }))

/-- A withdrawn read strobe ends the stalled read with no result word and cancels the slot as the wait limit
does; with no read stalled it releases the data (R167, R190). -/
def Obligations.StrobeWithdrawalEndsRead : Prop :=
  ∀ s : State, s.working →
    (s.port.window = .idle →
      exec .readStrobeWithdrawal s = .next { s with port := { s.port with dataOut := none } }) ∧
    (∀ (t : Tag) (n : Nat), s.port.window = .stalled t n → ∃ u w,
      exec .readStrobeWithdrawal s = .next u ∧ exec .windowWaitLimitExpiry s = .next w ∧
      u = { w with port := { w.port with dataOut := none } } ∧ u.port = { s.port with window := .idle, dataOut := none } ∧
      (∀ r, s.slot t = some r → r.state = .waiting → frameStands t s.dlv.requests = false →
        u.slot t = some { r with state := .cancelling, cancelCause := .windowLimit, timer := none }))

/-! ## The home -/

/-- An ACQUIRE that is grantable at once is granted: a new entry at generation 1, a FREE entry at the next
generation, or a SHARED hold joined at the current one; the GRANT carries generation and value, and is routed to the
requester, a peer or this station (R14, R16, R21 to R24). -/
def Obligations.AcquireAtHomeGrants : Prop :=
  ∀ (s : State) (p : Station) (t : Tag) (l : LockId) (m : LockMode) (w : WaitKind) (rest : List InboundRequest),
    s.serviceReady → s.home.inbound = { source := p, body := .acquire l t m w } :: rest →
    homeOf s.ctl.activeMap l = some s.own →
    (findEntry s.home.table l = none → s.home.table.length < 256 →
      exec .acquireAtHome s = .next (s.homeStepDone rest
        (putEntry
          { lock := l, state := m.lockState, holders := [{ station := p, tag := t }], waiters := [],
            generation := 1#16, value := [] } s.home.table)
        [{ destination := p, body := .grant l t m 1#16 [] }])) ∧
    (∀ e, findEntry s.home.table l = some e → e.involves p = false →
      (e.state = .free →
        let g : Word := if e.generation = 0xFFFF#16 then 1#16 else e.generation + 1#16
        exec .acquireAtHome s = .next (s.homeStepDone rest
          (putEntry { e with state := m.lockState, holders := [{ station := p, tag := t }], generation := g }
            s.home.table)
          [{ destination := p, body := .grant l t m g e.value }])) ∧
      (e.state = .shared → e.waiters = [] → m = .shared →
        exec .acquireAtHome s = .next (s.homeStepDone rest
          (putEntry { e with holders := insertHolder { station := p, tag := t } e.holders } s.home.table)
          [{ destination := p, body := .grant l t .shared e.generation e.value }])))

/-- An ACQUIRE that is not granted: DENY NOT_HOME, DUPLICATE, TABLE_FULL, BUSY or POOL_FULL with the table as it
was, or a waiter record at the queue's tail and no response (R6, R17, R23 to R25). -/
def Obligations.AcquireAtHomeDeniesOrQueues : Prop :=
  ∀ (s : State) (p : Station) (t : Tag) (l : LockId) (m : LockMode) (w : WaitKind) (rest : List InboundRequest),
    s.serviceReady → s.home.inbound = { source := p, body := .acquire l t m w } :: rest →
    let denied (r : DenyReason) : State :=
      s.homeStepDone rest s.home.table [{ destination := p, body := .deny l t r }]
    (homeOf s.ctl.activeMap l ≠ some s.own → exec .acquireAtHome s = .next (denied .notHome)) ∧
    (homeOf s.ctl.activeMap l = some s.own →
      (findEntry s.home.table l = none → 256 ≤ s.home.table.length →
        exec .acquireAtHome s = .next (denied .tableFull)) ∧
      (∀ e, findEntry s.home.table l = some e →
        (e.involves p = true → exec .acquireAtHome s = .next (denied .duplicate)) ∧
        (e.involves p = false → e.state ≠ .free → ¬ (m = .shared ∧ e.state = .shared ∧ e.waiters = []) →
          (w = .tryOnce → exec .acquireAtHome s = .next (denied .busy)) ∧
          (w = .queue → 128 ≤ waitersInUse s.home.table → exec .acquireAtHome s = .next (denied .poolFull)) ∧
          (w = .queue → waitersInUse s.home.table < 128 → exec .acquireAtHome s = .next { s with
            home := { s.home with
              inbound := rest,
              table := putEntry { e with
                waiters := e.waiters ++ [{ station := p, tag := t, mode := m }] } s.home.table } }))))

/-- A RELEASE that names no holder record of its source and tag, or another generation, is answered STALE and
leaves the table as it was (R26). -/
def Obligations.ReleaseAtHomeStale : Prop :=
  ∀ (s : State) (p : Station) (t : Tag) (l : LockId) (g : Word) (u : Bool) (v : List Byte)
    (rest : List InboundRequest),
    s.serviceReady → s.home.inbound = { source := p, body := .release l t g u v } :: rest →
    (findEntry s.home.table l = none ∨ ∃ e, findEntry s.home.table l = some e ∧
      ({ station := p, tag := t } ∉ e.holders ∨ g ≠ e.generation)) →
    exec .releaseAtHome s =
      .next (s.homeStepDone rest s.home.table [{ destination := p, body := .released l t .stale }])

/-- A RELEASE by a holder removes it. An update replaces the value of an EXCLUSIVE lock, answered OK, and leaves
that of a SHARED one, answered VALUE_IGNORED. The other holders go on holding; with none left the lock is regranted
while its queue is not empty, and else becomes FREE, its entry freed when the value is empty. The answer comes before
the GRANTs (R15, R27, R30). -/
def Obligations.ReleaseAtHomeByHolder : Prop :=
  ∀ (s : State) (p : Station) (t : Tag) (l : LockId) (u : Bool) (v : List Byte) (rest : List InboundRequest)
    (e : HomeEntry),
    s.serviceReady → s.home.inbound = { source := p, body := .release l t e.generation u v } :: rest →
    findEntry s.home.table l = some e → { station := p, tag := t } ∈ e.holders →
    let left : HomeEntry := { e with
      holders := e.holders.filter (fun h => decide (h ≠ { station := p, tag := t })),
      value := if u = true ∧ e.state = .exclusive then v else e.value }
    let answered (table : List HomeEntry) (grants : List OutResponse) : State :=
      s.homeStepDone rest table
        ({ destination := p, body := .released l t (if u = true ∧ e.state = .shared then .valueIgnored else .ok) }
          :: grants)
    (left.holders ≠ [] → exec .releaseAtHome s = .next (answered (putEntry left s.home.table) [])) ∧
    (left.holders = [] → left.waiters ≠ [] →
      exec .releaseAtHome s = .next (answered (putEntry (regrant left).1 s.home.table) (regrant left).2)) ∧
    (left.holders = [] → left.waiters = [] →
      (left.value = [] → exec .releaseAtHome s = .next (answered (removeEntry l s.home.table) [])) ∧
      (left.value ≠ [] →
        exec .releaseAtHome s = .next (answered (putEntry { left with state := .free } s.home.table) [])))

/-- A regrant: an EXCLUSIVE head alone becomes the holder, with one GRANT; with a SHARED head the SHARED waiters
up to the first EXCLUSIVE one hold together, each with its GRANT in queue order. The generation advances by one,
and the rest of the queue stays in its order. A reassessment lets the SHARED waiters at the head of a SHARED lock's
queue join the hold at the current generation, each with its GRANT, and changes nothing of any other lock (R16, R18,
R28, R29, R31). -/
def Obligations.RegrantAndReassessment : Prop :=
  (∀ (e : HomeEntry) (g : Word), g = (if e.generation = 0xFFFF#16 then 1#16 else e.generation + 1#16) →
    (∀ (w : Waiter) (rest : List Waiter), e.waiters = w :: rest → w.mode = .exclusive →
      regrant e =
        ({ e with state := .exclusive, holders := [{ station := w.station, tag := w.tag }], waiters := rest,
                  generation := g },
         [{ destination := w.station, body := .grant e.lock w.tag .exclusive g e.value }])) ∧
    (∀ batch rest : List Waiter, e.waiters = batch ++ rest → batch ≠ [] → (∀ w ∈ batch, w.mode = .shared) →
      rest.head?.map Waiter.mode ≠ some .shared →
      (regrant e).1 = { e with
        state := .shared, holders := (regrant e).1.holders, waiters := rest, generation := g } ∧
      (∀ h : Holder, h ∈ (regrant e).1.holders ↔ ∃ w ∈ batch, h = { station := w.station, tag := w.tag }) ∧
      (regrant e).1.holders.length = batch.length ∧
      (regrant e).2 = batch.map (fun w =>
        { destination := w.station, body := .grant e.lock w.tag .shared g e.value }))) ∧
  ∀ e : HomeEntry,
    (e.state ≠ .shared → reassess e = (e, [])) ∧
    (∀ batch rest : List Waiter, e.state = .shared → e.waiters = batch ++ rest →
      (∀ w ∈ batch, w.mode = .shared) → rest.head?.map Waiter.mode ≠ some .shared →
      (reassess e).1 = { e with holders := (reassess e).1.holders, waiters := rest } ∧
      (∀ h : Holder, h ∈ (reassess e).1.holders ↔
        (∃ w ∈ batch, h = { station := w.station, tag := w.tag }) ∨ h ∈ e.holders) ∧
      (reassess e).1.holders.length = e.holders.length + batch.length ∧
      (reassess e).2 = batch.map (fun w =>
        { destination := w.station, body := .grant e.lock w.tag .shared e.generation e.value }))

/-- A CANCEL at the home: a waiter is removed and the lock reassessed, with WITHDRAWN; a holder is removed as by
a release without update, with AFTER_GRANT and the regrant or FREE that follows; anything else is answered NOT_FOUND
with the table as it was. The answer comes before the GRANTs (R30, R31, R32). -/
def Obligations.CancelAtHomeByFinding : Prop :=
  ∀ (s : State) (p : Station) (t : Tag) (l : LockId) (rest : List InboundRequest),
    s.serviceReady → s.home.inbound = { source := p, body := .cancel l t } :: rest →
    let answered (table : List HomeEntry) (o : CancelledOutcome) (grants : List OutResponse) : State :=
      s.homeStepDone rest table ({ destination := p, body := .cancelled l t o } :: grants)
    (findEntry s.home.table l = none →
      exec .cancelAtHome s = .next (answered s.home.table .notFound [])) ∧
    (∀ e : HomeEntry, findEntry s.home.table l = some e →
      ((∃ w ∈ e.waiters, w.station = p ∧ w.tag = t) →
        let left : HomeEntry := { e with
          waiters := e.waiters.filter (fun w => decide (¬ (w.station = p ∧ w.tag = t))) }
        exec .cancelAtHome s =
          .next (answered (putEntry (reassess left).1 s.home.table) .withdrawn (reassess left).2)) ∧
      ((∀ w ∈ e.waiters, ¬ (w.station = p ∧ w.tag = t)) →
        ({ station := p, tag := t } ∉ e.holders →
          exec .cancelAtHome s = .next (answered s.home.table .notFound [])) ∧
        ({ station := p, tag := t } ∈ e.holders →
          let left : HomeEntry := { e with
            holders := e.holders.filter (fun h => decide (h ≠ { station := p, tag := t })) }
          (left.holders ≠ [] →
            exec .cancelAtHome s = .next (answered (putEntry left s.home.table) .afterGrant [])) ∧
          (left.holders = [] → left.waiters ≠ [] → exec .cancelAtHome s =
            .next (answered (putEntry (regrant left).1 s.home.table) .afterGrant (regrant left).2)) ∧
          (left.holders = [] → left.waiters = [] →
            (left.value = [] →
              exec .cancelAtHome s = .next (answered (removeEntry l s.home.table) .afterGrant [])) ∧
            (left.value ≠ [] → exec .cancelAtHome s =
              .next (answered (putEntry { left with state := .free } s.home.table) .afterGrant []))))))

/-- A response is routed by its destination at the moment it is produced: to this station's request controller,
to the outbound response queue of a PRESENT peer of which no purge is pending or running, or nowhere; the responses
of one step in their order (R22). This station's request controller applies a response of its own home as it applies
one of a peer: matched to a slot by tag, lock and home, by kind, origin and slot state, or discarded (R5, R53 to R58;
logs 21, 29). -/
def Obligations.ResponseRouting : Prop :=
  (∀ (s : State) (e : OutResponse),
    (e.destination = s.own → s.routeResponse e = s.applyResponse s.own e.body) ∧
    (e.destination ≠ s.own →
      ((s.peer e.destination).state = .present ∧ e.destination ∉ s.home.pendingPurge ∧
          (∀ w, s.home.walk = some w → w.station ≠ e.destination) →
        s.routeResponse e = { s with dlv := { s.dlv with responses := s.dlv.responses ++ [e] } }) ∧
      (((s.peer e.destination).state ≠ .present ∨ e.destination ∈ s.home.pendingPurge ∨
          ∃ w, s.home.walk = some w ∧ w.station = e.destination) → s.routeResponse e = s))) ∧
  (∀ s : State, s.routeResponses [] = s ∧
    ∀ (e : OutResponse) (es : List OutResponse),
      s.routeResponses (e :: es) = (s.routeResponse e).routeResponses es) ∧
  ∀ (s : State) (b : ResponseBody), s.responseEffect s.own b (s.applyResponse s.own b)

/-- A walk step visits the entry with the lowest lock ID at or above the position and takes the walked station
out of it: as waiter, with a reassessment, or as holder, with the regrant or FREE that follows; an entry without it
stays. The GRANTs are routed. The position becomes the visited lock ID plus one while an entry is left there; else
the walk ends, and the next one begins with the lowest station pending (R22, R30, R31, R34 to R36). Over a table that
has become empty the pending purges end with it (log 20). -/
def Obligations.WalkStepVisits : Prop :=
  ∀ (s : State) (w : Walk) (e : HomeEntry),
    s.working → s.ctl.state = .online → s.home.walk = some w →
    s.dlv.responses.length + 16 ≤ 32 → nextEntry s.home.table w.position = some e →
    let walked (table : List HomeEntry) (grants : List OutResponse) : State :=
      let x := s.homeStepDone s.home.inbound table grants
      { x with home :=
        if (nextEntry table (e.lock.toNat + 1)).isSome then
          { s.home with table := table, walk := some { w with position := e.lock.toNat + 1 } }
        else if table = [] then { s.home with table := table, walk := none, pendingPurge := [] }
        else { s.home with
          table := table,
          walk := s.home.pendingPurge.head?.map (fun q => { station := q, position := 0 }),
          pendingPurge := s.home.pendingPurge.tail } }
    (e.involves w.station = false → exec .walkStep s = .next (walked s.home.table [])) ∧
    (∀ x ∈ e.waiters, x.station = w.station → (∀ y ∈ e.waiters, y.station = w.station → y = x) →
      let left : HomeEntry := { e with waiters := e.waiters.filter (fun y => decide (y.station ≠ w.station)) }
      exec .walkStep s = .next (walked (putEntry (reassess left).1 s.home.table) (reassess left).2)) ∧
    ((∀ y ∈ e.waiters, y.station ≠ w.station) → ∀ x ∈ e.holders, x.station = w.station →
      (∀ y ∈ e.holders, y.station = w.station → y = x) →
      let left : HomeEntry := { e with holders := e.holders.filter (fun y => decide (y.station ≠ w.station)) }
      (left.holders ≠ [] → exec .walkStep s = .next (walked (putEntry left s.home.table) [])) ∧
      (left.holders = [] → left.waiters ≠ [] → exec .walkStep s =
        .next (walked (putEntry (regrant left).1 s.home.table) (regrant left).2)) ∧
      (left.holders = [] → left.waiters = [] →
        (left.value = [] → exec .walkStep s = .next (walked (removeEntry e.lock s.home.table) [])) ∧
        (left.value ≠ [] → exec .walkStep s =
          .next (walked (putEntry { left with state := .free } s.home.table) []))))

/-- No service step begins outside ONLINE, during a walk, with a purge pending, or on fewer than 16 free
response entries, and no walk step outside ONLINE, without a walk or on fewer than 16: the home waits (R21, R35,
R40). -/
def Obligations.HomeStepsHeldBack : Prop :=
  ∀ s : State,
    (¬ s.serviceReady →
      exec .acquireAtHome s = .next s ∧ exec .releaseAtHome s = .next s ∧ exec .cancelAtHome s = .next s) ∧
    (32 < s.dlv.responses.length + 16 ∨ s.ctl.state ≠ .online ∨ s.home.walk = none → exec .walkStep s = .next s)

/-- A loopback move takes the oldest frame to this station, of any kind, into the inbound request queue's tail. The
ACQUIRE of a PENDING slot with a clear mark makes it WAITING, with the mark set CANCELLING with its CANCEL appended;
the frame of an open slot that is not PENDING lets an owed frame be appended and changes nothing else; that of a DONE
slot makes it FREE when nothing of it is left. With no free entry or outside ONLINE nothing moves (R50, R51, R64, R77,
R126). -/
def Obligations.LoopbackMoves : Prop :=
  ∀ (s : State) (e : OutRequest) (a b : List OutRequest), s.working → s.dlv.requests = a ++ e :: b →
    e.destination = s.own → (∀ x ∈ a, x.destination ≠ s.own) →
    (s.ctl.state = .online → s.home.inbound.length < 8 → ∀ r : SlotRecord, s.slot e.body.tag = some r →
      let moved (requests : List OutRequest) : State := { s with
        home := { s.home with inbound := s.home.inbound ++ [{ source := s.own, body := e.body }] },
        dlv := { s.dlv with requests := requests } }
      (e.body.isAcquire = true → r.state = .pending → r.mark = false → exec .loopbackMove s =
        .next ((moved (a ++ b)).slotNow e.body.tag (some { r with state := .waiting }))) ∧
      (e.body.isAcquire = true → r.state = .pending → r.mark = true → frameStands e.body.tag (a ++ b) = false →
        exec .loopbackMove s =
          .next ((moved (a ++ b ++ [{ destination := r.home, body := .cancel r.lock e.body.tag }])).slotNow
            e.body.tag (some { r with state := .cancelling, mark := false }))) ∧
      (r.state ≠ .pending → r.state ≠ .done →
        (r.owed = none → exec .loopbackMove s = .next (moved (a ++ b))) ∧
        (∀ c : RequestBody, r.owed = some c → exec .loopbackMove s =
          .next ((moved (a ++ b ++ [{ destination := r.home, body := c }])).slotNow
            e.body.tag (some { r with owed := none })))) ∧
      (r.state = .done → exec .loopbackMove s =
        .next ((moved (a ++ b)).slotNow e.body.tag (r.doneAfter (frameStands e.body.tag (a ++ b)))))) ∧
    (s.ctl.state ≠ .online ∨ 8 ≤ s.home.inbound.length → exec .loopbackMove s = .next s)

/-! ## The line -/

/-- At the own position a broadcast that is due goes first: a PRESENCE in ONLINE, a LEAVE in LEAVING; the
PRESENCE carries epoch, digest and the sync-wait list as they stand, and the FRESH flag while it is set (R85, R86,
R119, R144, R162). A station that may not send, or a line that offers no opportunity, sends nothing (R105, R112). -/
def Obligations.OpportunitySendsBroadcast : Prop :=
  ∀ s : State,
    (s.opportunityHere → s.ctl.state = .online → s.dlv.presenceDue = true → ∃ list : Word,
      exec .sendingOpportunity s =
        .next { s.frameBegun .presence
          { sync := false, fresh := s.roster.fresh, destination := 0xFF#8, source := s.own, sequence := 0#8,
            body := .presence s.ctl.cfg.epoch s.ctl.digest list } with
          dlv := { s.dlv with presenceDue := false } } ∧
      ∀ p : Station, list.getLsbD p.val = true ↔ p ≠ s.own ∧ (s.peer p).syncIn = true) ∧
    (s.opportunityHere → s.ctl.state = .leaving →
      (s.dlv.leaveDue = true → exec .sendingOpportunity s =
        .next { s.frameBegun .leave
          { sync := false, fresh := false, destination := 0xFF#8, source := s.own, sequence := 0#8,
            body := .leave s.ctl.cfg.epoch } with
          dlv := { s.dlv with leaveDue := false } }) ∧
      (s.dlv.leaveDue = false → exec .sendingOpportunity s =
        .next { s with bus := { s.bus with positionCounter := s.bus.ownPosition } })) ∧
    (¬ s.opportunityHere ∨ s.ctl.state = .config ∨ s.ctl.state = .joining →
      exec .sendingOpportunity s = .next s)

/-- With no PRESENCE due, the oldest response that may be sent goes out, else the oldest request that may, else
nothing. A frame not yet started is started with the destination's next sequence number and sync-out flag; a started
one keeps both (R117 to R119). -/
def Obligations.OpportunityStartsFrame : Prop :=
  ∀ s : State, s.opportunityHere → s.ctl.state = .online → s.dlv.presenceDue = false →
    let sent (d : Station) (q : OutQueue) (b : FrameBody) (x : State) : Prop :=
      (∀ f, (s.sendRecord d).started = some f →
        x = s.frameBegun (.addressed d q)
          { sync := f.sync, fresh := false, destination := stationByte d, source := s.own, sequence := f.sequence,
            body := b }) ∧
      ((s.sendRecord d).started = none →
        x = (s.frameBegun (.addressed d q)
          { sync := (s.peer d).syncOut, fresh := false, destination := stationByte d, source := s.own,
            sequence := (s.sendRecord d).nextSequence, body := b }).sendNow d
            { nextSequence := (s.sendRecord d).nextSequence,
              started := some { queue := q, sequence := (s.sendRecord d).nextSequence, sync := (s.peer d).syncOut },
              attempts := 0, lastAnswer := .none, holdOff := none })
    (∀ (a b : List OutResponse) (e : OutResponse), s.dlv.responses = a ++ e :: b →
      (∀ x ∈ a, ¬ s.frameReady .response x.destination) → s.frameReady .response e.destination →
      ∃ t, exec .sendingOpportunity s = .next t ∧ sent e.destination .response (.response e.body) t) ∧
    ((∀ x ∈ s.dlv.responses, ¬ s.frameReady .response x.destination) →
      (∀ (a b : List OutRequest) (e : OutRequest), s.dlv.requests = a ++ e :: b →
        (∀ x ∈ a, ¬ s.frameReady .request x.destination) → s.frameReady .request e.destination →
        ∃ t, exec .sendingOpportunity s = .next t ∧ sent e.destination .request (.request e.body) t) ∧
      ((∀ x ∈ s.dlv.requests, ¬ s.frameReady .request x.destination) →
        exec .sendingOpportunity s = .next { s with bus := { s.bus with positionCounter := s.bus.ownPosition } }))

/-- A mismatch stops the own frame: after its start bit the attempt goes on as a collision that the receivers'
rules follow; at the start bit it ends at once, the cycle going on, and a broadcast is due again, or the attempt
count rises, the eighth time purging the destination with NO_ANSWER, or the outcome is ignored (R106, R107, R110,
R123 to R125; log 18). A mismatch on the ACK being sent stops it for good, the transmission on the line going on but
for one at its start bit (R107, R108; log 15). With no own frame and no ACK going out nothing changes (log 5). -/
def Obligations.MismatchStopsSending : Prop :=
  ∀ (s : State) (bit : Nat), s.working →
    (∀ a : Attempt, s.bus.attempt = some a → a.phase = .sending → bit < a.frame.levels.length →
      (0 < bit → exec (.readBackMismatch bit) s =
        .next { s with bus := { s.bus with attempt := some { a with phase := .collision } } }) ∧
      (bit = 0 → a.ignored = false →
        let p := ownPositionOf s.own s.bus.reference
        let back : State := { s with bus := { s.bus with
          attempt := none, linePhase := .cycle, positionCounter := some p, ownPosition := some p } }
        (a.kind = .presence → s.ctl.state ≠ .leaving → exec (.readBackMismatch bit) s =
          .next { back with dlv := { s.dlv with presenceDue := true } }) ∧
        (a.kind = .leave → exec (.readBackMismatch bit) s =
          .next { back with dlv := { s.dlv with leaveDue := true } }) ∧
        (∀ (d : Station) (q : OutQueue) (f : StartedFrame), a.kind = .addressed d q →
          (s.sendRecord d).started = some f →
          ((s.sendRecord d).attempts < 7 → exec (.readBackMismatch bit) s = .next (back.sendNow d
            { s.sendRecord d with attempts := (s.sendRecord d).attempts + 1, lastAnswer := .none })) ∧
          (7 ≤ (s.sendRecord d).attempts →
            exec (.readBackMismatch bit) s = .next (back.purge d .noAnswer)))) ∧
      (bit = 0 → a.ignored = true →
        let p := ownPositionOf s.own s.bus.reference
        exec (.readBackMismatch bit) s = .next { s with bus := { s.bus with
          attempt := none, linePhase := .cycle, positionCounter := some p, ownPosition := some p } })) ∧
    ((∀ a : Attempt, s.bus.attempt = some a → a.phase ≠ .sending) →
      (∀ f : Frame, s.bus.ackSending = some f → bit < f.levels.length → exec (.readBackMismatch bit) s =
        .next { s with bus := { s.bus with ackSending := none, windowTransmission := decide (0 < bit) } }) ∧
      (s.bus.ackSending = none → exec (.readBackMismatch bit) s = .next s))

/-- The own frame's end opens the window with the own number as reference; the ACK that is due is begun; 11
recessive bit times end START-UP with a cycle; another station's first dominant bit ends a cycle, and in a window
begins a transmission that the window waits for, with no ACK due or going out any longer (R99, R100, R102, R104, R106,
R108, R112; log 15). With no ACK due none is begun (log 5). -/
def Obligations.LinePhaseEvents : Prop :=
  ∀ s : State, s.working →
    (∀ a : Attempt, s.bus.attempt = some a → a.phase = .sending →
      exec .ownTransmissionEnd s = .next { s with bus := { s.bus with
        attempt := some { a with phase := .sentWhole }, reference := some s.own, linePhase := .window,
        windowTransmission := false } }) ∧
    (∀ f : Frame, s.bus.ackDue = some f → s.bus.linePhase = .window →
      (s.ctl.state = .online ∨ s.ctl.state = .leaving) →
      exec .ackTransmission s = .next { s with bus := { s.bus with ackDue := none, ackSending := some f } }) ∧
    (s.bus.ackDue = none → exec .ackTransmission s = .next s) ∧
    (s.bus.linePhase = .startUp → exec .startupLineIdle s = .next { s with bus := { s.bus with
      linePhase := .cycle, positionCounter := some 1,
      ownPosition := some (match s.bus.reference with
        | some r => 1 + (s.own.val + 15 - r.val) % 16
        | none => s.own.val + 1) } }) ∧
    (s.bus.ownSending = false →
      (s.bus.linePhase = .cycle → exec .transmissionBegin s = .next { s with bus := { s.bus with
        linePhase := .frame, positionCounter := none, ownPosition := none } }) ∧
      (s.bus.linePhase = .window →
        exec .transmissionBegin s = .next { s with bus := { s.bus with
          ackDue := none, ackSending := none, windowTransmission := true } }) ∧
      (s.bus.linePhase = .startUp ∨ s.bus.linePhase = .frame → exec .transmissionBegin s = .next s))

/-- The own position is 1 plus the distance of the own number after the reference, mod 16; with the reference
unknown it is the own number plus 1. It is 1 to 16, the station just after the reference has 1 and the reference
itself has 16; two stations with the same reference, known or unknown, have different positions, and one with a known
reference may share the position of one with none. It is computed at the start of each cycle from the reference as it
then stands, and no command changes it while the cycle goes on (R103). -/
def Obligations.OwnPosition : Prop :=
  (∀ own : Station, ownPositionOf own none = own.val + 1 ∧
    ∀ r : Station,
      (ownPositionOf own (some r) : Int) = 1 + (((own.val : Int) - r.val - 1) % 16) ∧
      1 ≤ ownPositionOf own (some r) ∧ ownPositionOf own (some r) ≤ 16 ∧
      (own = r + 1 → ownPositionOf own (some r) = 1) ∧ (own = r → ownPositionOf own (some r) = 16)) ∧
  (∀ (own other : Station) (reference : Option Station),
    ownPositionOf own reference = ownPositionOf other reference → own = other) ∧
  (∃ (own other r : Station), own ≠ other ∧ ownPositionOf own (some r) = ownPositionOf other none) ∧
  (∀ s : State, s.working →
    (s.windowCanClose → s.bus.attempt = none → ∃ t, exec .windowClose s = .next t ∧
      t.bus.linePhase = .cycle ∧ t.bus.ownPosition = some (ownPositionOf s.own s.bus.reference)) ∧
    (s.bus.linePhase = .startUp → ∃ t, exec .startupLineIdle s = .next t ∧
      t.bus.linePhase = .cycle ∧ t.bus.ownPosition = some (ownPositionOf s.own s.bus.reference))) ∧
  ∀ (c : Instr) (s t : State), BusInv s → s.bus.linePhase = .cycle → exec c s = .next t → t.bus.linePhase = .cycle →
    t.bus.ownPosition = s.bus.ownPosition

/-- The window closes on an ACCEPT: the started frame leaves its queue, the sequence number advances, sync-out is
cleared if the frame carried SYNC, and a new cycle begins. The slot of an ACQUIRE goes to WAITING, or with the mark
set to CANCELLING with its CANCEL; an owed frame is appended; a DONE slot of which nothing is left becomes FREE (R50,
R51, R64, R77, R110, R120). -/
def Obligations.WindowCloseOnAccept : Prop :=
  ∀ (s : State) (a : Attempt) (d : Station) (q : OutQueue) (f : StartedFrame),
    s.windowCanClose → s.bus.attempt = some a → a.kind = .addressed d q →
    a.phase = .sentWhole → a.ignored = false → a.answer = some .accept → (s.sendRecord d).started = some f →
    let done : State := { s.cycleBegun.sendNow d
      { nextSequence := (s.sendRecord d).nextSequence + 1#8, started := none, attempts := 0, lastAnswer := .none,
        holdOff := (s.sendRecord d).holdOff } with
      roster := if f.sync = true then
          { s.roster with peers := vset s.roster.peers d { s.peer d with syncOut := false } }
        else s.roster }
    (∀ (x y : List OutResponse) (e : OutResponse), q = .response → s.dlv.responses = x ++ e :: y →
      e.destination = d → (∀ o ∈ x, o.destination ≠ d) →
      exec .windowClose s = .next { done with dlv := { done.dlv with responses := x ++ y } }) ∧
    (∀ (x y : List OutRequest) (e : OutRequest) (r : SlotRecord), q = .request → s.dlv.requests = x ++ e :: y →
      e.destination = d → (∀ o ∈ x, o.destination ≠ d) → s.slot e.body.tag = some r →
      (r.state = .pending → e.body.isAcquire = true → r.mark = false → exec .windowClose s = .next { done with
        dlv := { done.dlv with requests := x ++ y },
        req := { s.req with slots := vset s.req.slots e.body.tag (some { r with state := .waiting }) } }) ∧
      (r.state = .pending → e.body.isAcquire = true → r.mark = true → frameStands e.body.tag (x ++ y) = false →
        exec .windowClose s = .next { done with
          dlv := { done.dlv with
            requests := x ++ y ++ [{ destination := r.home, body := .cancel r.lock e.body.tag }] },
          req := { s.req with slots := vset s.req.slots e.body.tag (some
            { r with state := .cancelling, mark := false }) } }) ∧
      (r.state ≠ .pending → r.state ≠ .done →
        (r.owed = none → exec .windowClose s = .next { done with dlv := { done.dlv with requests := x ++ y } }) ∧
        (∀ b : RequestBody, r.owed = some b → exec .windowClose s = .next { done with
          dlv := { done.dlv with requests := x ++ y ++ [{ destination := r.home, body := b }] },
          req := { s.req with slots := vset s.req.slots e.body.tag (some { r with owed := none }) } })) ∧
      (r.state = .done → exec .windowClose s = .next
        (({ done with dlv := { done.dlv with requests := x ++ y } } : State).slotNow e.body.tag
          (r.doneAfter (frameStands e.body.tag (x ++ y))))))

/-- With no window open, or a transmission that began inside it in progress, none closes (R100, R101; log 5). A window
closes on any other outcome, and a new cycle begins: BUSY and UNHEARD start the hold-off of 1024 bit times, UNHEARD
making a PRESENCE due, and the ACQUIRE frame of a slot with the mark set is withdrawn, the slot finishing UNSENT by its
cause (R61, R64, R121, R127); no answer and a collision count; a PRESENCE sent whole clears FRESH; a LEAVE sent whole
ends LEAVING, every silence timer becoming absent; either is due again after a collision; an ignored outcome, or no
attempt, changes no more (R102, R110, R123 to R125, R163; log 21). -/
def Obligations.WindowCloseOtherwise : Prop :=
  ∀ s : State, s.working →
    (s.bus.linePhase ≠ .window ∨ s.bus.windowTransmission = true → exec .windowClose s = .next s) ∧
    (s.bus.linePhase = .window → s.bus.windowTransmission = false →
      (s.bus.attempt = none → exec .windowClose s = .next s.cycleBegun) ∧
      ∀ a : Attempt, s.bus.attempt = some a →
        (a.ignored = true → exec .windowClose s = .next s.cycleBegun) ∧
        (a.ignored = false →
          (a.kind = .presence → a.phase = .sentWhole → exec .windowClose s =
            .next { s.cycleBegun with roster := { s.roster with fresh := false } }) ∧
          (a.kind = .presence → a.phase = .collision → s.ctl.state ≠ .leaving → exec .windowClose s =
            .next { s.cycleBegun with dlv := { s.dlv with presenceDue := true } }) ∧
          (a.kind = .leave → a.phase = .collision → exec .windowClose s =
            .next { s.cycleBegun with dlv := { s.dlv with leaveDue := true } }) ∧
          (a.kind = .leave → a.phase = .sentWhole → ∃ t, exec .windowClose s = .next t ∧
            t.ctl = { s.ctl with
              state := .config, previousEpoch := some s.ctl.cfg.epoch, leavingTimer := none } ∧
            t.dlv = { s.dlv with leaveDue := false } ∧ t.bus = s.cycleBegun.bus ∧ t.req = s.req ∧
            t.home = s.home ∧ t.port = s.port ∧
            t.roster.presenceTimer = s.roster.presenceTimer ∧ t.roster.fresh = s.roster.fresh ∧
            ∀ p : Station, p ≠ s.own → t.peer p = { s.peer p with silenceTimer := none }) ∧
          ∀ (d : Station) (q : OutQueue) (f : StartedFrame), a.kind = .addressed d q →
            (s.sendRecord d).started = some f →
            (a.phase = .sentWhole → (∀ e, q = .request → oldestRequestTo d s.dlv.requests = some e →
                s.slotIs e.body.tag (fun r => decide (¬ (r.state = .pending ∧ r.mark = true))) = true) →
              (a.answer = some .busy → exec .windowClose s = .next (s.cycleBegun.sendNow d
                { s.sendRecord d with lastAnswer := .busy, holdOff := some 1024 })) ∧
              (a.answer = some .unheard → s.ctl.state ≠ .leaving → exec .windowClose s =
                .next (({ s.cycleBegun with dlv := { s.dlv with presenceDue := true } } : State).sendNow d
                  { s.sendRecord d with lastAnswer := .unheard, holdOff := some 1024 }))) ∧
            (∀ (e : OutRequest) (r : SlotRecord), a.phase = .sentWhole → q = .request → f.queue = .request →
              oldestRequestTo d s.dlv.requests = some e → acquireFrameOf e.body.tag s.dlv.requests = some e →
              s.slot e.body.tag = some r → r.state = .pending → r.mark = true →
              (a.answer = some .busy ∨ (a.answer = some .unheard ∧ s.ctl.state ≠ .leaving)) →
              let freed : State := { s.cycleBegun with dlv := { s.dlv with
                presenceDue := if a.answer = some .unheard then true else s.dlv.presenceDue,
                requests := s.dlv.requests.filter (fun x => decide (x.body.tag ≠ e.body.tag)),
                send := vset s.dlv.send d
                  { nextSequence := (s.sendRecord d).nextSequence, started := none, attempts := 0,
                    lastAnswer := .none, holdOff := some 1024 } } }
              (r.cancelCause = .software → exec .windowClose s =
                .next (freed.posting e.body.tag r .cancelled .unsent 0#16 [] r.ended)) ∧
              (r.cancelCause = .timeout → exec .windowClose s =
                .next (freed.posting e.body.tag r .timeout .unsent 0#16 [] r.ended)) ∧
              (r.cancelCause = .windowLimit → exec .windowClose s =
                .next (freed.slotNow e.body.tag (r.endedQuietly false)))) ∧
            ((a.phase = .sentWhole ∧ a.answer = none) ∨ a.phase = .collision →
              (s.sendRecord d).attempts < 7 → exec .windowClose s = .next (s.cycleBegun.sendNow d
                { s.sendRecord d with
                  attempts := (s.sendRecord d).attempts + 1, lastAnswer := .none }))))

/-- The window closes on a REJECT, or on the eighth unanswered attempt: the destination is purged, with DISOWNED or
NO_ANSWER, and a new cycle begins (R110, R122, R123, R139). -/
def Obligations.WindowClosePurges : Prop :=
  ∀ (s : State) (a : Attempt) (d : Station) (q : OutQueue) (f : StartedFrame),
    s.windowCanClose → s.bus.attempt = some a → a.kind = .addressed d q →
    a.ignored = false → (s.sendRecord d).started = some f →
    (a.phase = .sentWhole → a.answer = some .reject →
      exec .windowClose s = .next (s.cycleBegun.purge d .disowned)) ∧
    ((a.phase = .sentWhole ∧ a.answer = none) ∨ a.phase = .collision → 7 ≤ (s.sendRecord d).attempts →
      exec .windowClose s = .next (s.cycleBegun.purge d .noAnswer))

/-! ## Receipts -/

/-- A request frame of a peer to this ONLINE station is answered by the first of R128's steps that applies:
UNHEARD, REJECT, ACCEPT as a duplicate, BUSY for a full inbound request queue, else ACCEPT, and only then it enters
the queue's tail. Any frame of the peer restarts its silence timer, sets the reference and opens the window; one to
another station does no more. In CONFIG and JOINING, and with the own number as its source, a request is not answered:
it has its effects on the line and on the duplicate-number-seen flag, and in JOINING ends the listen (R92 to R95, R112,
R128 to R131, R160). -/
def Obligations.RequestReceiptAnswered : Prop :=
  ∀ (s : State) (levels : Levels) (f : Frame) (b : RequestBody),
    s.canReceive → checkFrame false (receptionOf levels) = .ok f → f.body = .request b →
    s.unanswered f (fun x => x) (exec (.requestFrameReceipt levels) s) ∧
    (f.source ≠ s.own →
      (s.ctl.state = .online ∨ s.ctl.state = .leaving → f.addressee ≠ some s.own →
        exec (.requestFrameReceipt levels) s = .next (s.heard f.source)) ∧
      (s.ctl.state = .online → f.addressee = some s.own →
        s.discards f (exec (.requestFrameReceipt levels) s) ∧
        (s.inOrder f →
          (8 ≤ s.home.inbound.length →
            exec (.requestFrameReceipt levels) s = .next ((s.heard f.source).answering f .busy)) ∧
          (s.home.inbound.length < 8 →
            exec (.requestFrameReceipt levels) s = .next { s.accepted f with
              home := { s.home with inbound := s.home.inbound ++ [{ source := f.source, body := b }] } }))))

/-- A SYNC frame that was not awaited, and is no repeat, makes this station purge its sender with DISOWNED, in every
block (PurgeOfPeer says what that is), and the checks go on in the state the purge leaves: a request is taken, or
answered BUSY when the inbound request queue is still full, its sync-in flag staying set for the retry; a response is
taken and finds no slot that expects it, since the purge made every slot of that home LOST (R53, R69, R128 to R131). In
LEAVING a request is answered BUSY and a response ACCEPT, and neither is taken (R132). -/
def Obligations.ReceiptResynchronises : Prop :=
  ∀ (s : State) (levels : Levels) (f : Frame), s.canReceive → checkFrame false (receptionOf levels) = .ok f →
    f.source ≠ s.own → f.addressee = some s.own →
    (s.ctl.state = .online → (s.peer f.source).state = .present → (s.peer f.source).syncIn = false →
      f.sync = true → s.receiveRecord f.source ≠ some { sequence := f.sequence, sync := true } →
      let purged := (s.heard f.source).purge f.source .disowned
      (∀ b : RequestBody, f.body = .request b →
        (purged.home.inbound.length < 8 → exec (.requestFrameReceipt levels) s = .next { purged.frameTaken f with
          home := { purged.home with
            inbound := purged.home.inbound ++ [{ source := f.source, body := b }] } }) ∧
        (8 ≤ purged.home.inbound.length →
          exec (.requestFrameReceipt levels) s = .next (purged.answering f .busy))) ∧
      (∀ b : ResponseBody, f.body = .response b →
        exec (.responseFrameReceipt levels) s = .next (purged.frameTaken f))) ∧
    (s.ctl.state = .leaving →
      (∀ b : RequestBody, f.body = .request b →
        exec (.requestFrameReceipt levels) s = .next ((s.heard f.source).answering f .busy)) ∧
      (∀ b : ResponseBody, f.body = .response b →
        exec (.responseFrameReceipt levels) s = .next ((s.heard f.source).answering f .accept)))

/-- A response frame of a peer to this ONLINE station that R128's steps discard is answered as they say and changes no
slot. An accepted response is applied to the slot it matches by tag, lock and home: a GRANT makes it HELD with its
record, or with the window read's outcome; DENY, RELEASED and CANCELLED finish it, with the record its origin and
cancel cause give, or the window read's outcome; a GRANT or DENY of a PENDING slot with the mark set sends it to
CANCELLING. One that matches no slot, or finds it in a state that does not expect it, changes no slot. A response to
another station, in CONFIG or JOINING, or with the own number as its source is not answered and changes no slot (R53 to
R58, R61, R64, R68, R92 to R95, R112, R128, R160, R187, R188; logs 21, 29). -/
def Obligations.ResponseReceiptApplied : Prop :=
  ∀ (s : State) (levels : Levels) (f : Frame) (b : ResponseBody),
    s.canReceive → checkFrame false (receptionOf levels) = .ok f → f.body = .response b →
    s.unanswered f (fun x => x) (exec (.responseFrameReceipt levels) s) ∧
    (f.source ≠ s.own →
      (s.ctl.state = .online ∨ s.ctl.state = .leaving → f.addressee ≠ some s.own →
        exec (.responseFrameReceipt levels) s = .next (s.heard f.source)) ∧
      (s.ctl.state = .online → f.addressee = some s.own →
        s.discards f (exec (.responseFrameReceipt levels) s) ∧
        (s.inOrder f → ∃ t, exec (.responseFrameReceipt levels) s = .next t ∧
          (s.accepted f).responseEffect f.source b t)))

/-- A PRESENCE heard in ONLINE or LEAVING: with this station's digest an unheard, absent or mismatched peer becomes
PRESENT with its epoch, a PRESENT one with the same epoch stays, and one with another epoch or the FRESH flag is
purged with RESTARTED; with another digest a peer not yet MISMATCHED is purged with MISMATCH. In CONFIG only the line
changes; in JOINING the peer becomes PRESENT or MISMATCHED by its digest, with its epoch, and the listen ends. The own
number's frame sets the duplicate-number-seen flag, and in JOINING ends the listen too (R92 to R95, R112, R145 to R147,
R160). -/
def Obligations.PresenceReceiptHeard : Prop :=
  ∀ (s : State) (levels : Levels) (f : Frame) (epoch digest list : Word),
    s.canReceive → checkFrame false (receptionOf levels) = .ok f → f.body = .presence epoch digest list →
    let recorded (x : State) (st : PeerState) : State :=
      x.peerNow f.source { x.peer f.source with state := st, epoch := some epoch }
    s.unanswered f (fun x => recorded x (if digest = s.ctl.digest then .present else .mismatched))
      (exec (.presenceReceipt levels) s) ∧
    (f.source ≠ s.own →
      let notice := list.getLsbD s.own.val = true ∧ (s.peer f.source).syncOut = false
      (s.ctl.state = .online ∨ s.ctl.state = .leaving →
        (digest = s.ctl.digest → ¬ notice →
          ((s.peer f.source).state ≠ .present →
            exec (.presenceReceipt levels) s = .next (recorded (s.heard f.source) .present)) ∧
          ((s.peer f.source).state = .present → (s.peer f.source).epoch = some epoch → f.fresh = false →
            exec (.presenceReceipt levels) s = .next (s.heard f.source))) ∧
        (digest = s.ctl.digest → (s.peer f.source).state = .present →
          (s.peer f.source).epoch ≠ some epoch ∨ f.fresh = true →
          exec (.presenceReceipt levels) s =
            .next (recorded ((s.heard f.source).purge f.source .restarted) .present)) ∧
        (digest = s.ctl.digest → notice → (s.peer f.source).state = .present →
          (s.peer f.source).epoch = some epoch → f.fresh = false →
          exec (.presenceReceipt levels) s = .next ((s.heard f.source).purge f.source .disowned)) ∧
        (digest ≠ s.ctl.digest →
          ((s.peer f.source).state = .mismatched →
            exec (.presenceReceipt levels) s = .next (recorded (s.heard f.source) .mismatched)) ∧
          ((s.peer f.source).state ≠ .mismatched → exec (.presenceReceipt levels) s =
            .next (recorded ((s.heard f.source).purge f.source .mismatch) .mismatched)))))

/-- A LEAVE heard in ONLINE or LEAVING: a PRESENT or UNKNOWN peer is purged with LEFT, a MISMATCHED one becomes
ABSENT, an ABSENT one stays. In JOINING the peer becomes ABSENT and the listen ends; in CONFIG only the line changes;
the own number's frame sets the duplicate-number-seen flag, and in JOINING ends the listen too (R92 to R95, R112, R150,
R160). -/
def Obligations.LeaveReceiptHeard : Prop :=
  ∀ (s : State) (levels : Levels) (f : Frame) (epoch : Word),
    s.canReceive → checkFrame false (receptionOf levels) = .ok f → f.body = .leave epoch →
    s.unanswered f (fun x => x.peerNow f.source { x.peer f.source with state := .absent })
      (exec (.leaveFrameReceipt levels) s) ∧
    (f.source ≠ s.own → s.ctl.state = .online ∨ s.ctl.state = .leaving →
      ((s.peer f.source).state = .present ∨ (s.peer f.source).state = .unknown →
        exec (.leaveFrameReceipt levels) s = .next ((s.heard f.source).purge f.source .left)) ∧
      ((s.peer f.source).state = .mismatched → exec (.leaveFrameReceipt levels) s =
        .next ((s.heard f.source).peerNow f.source { (s.heard f.source).peer f.source with state := .absent })) ∧
      ((s.peer f.source).state = .absent → exec (.leaveFrameReceipt levels) s = .next (s.heard f.source)))

/-- The first ACK in the window to this station, from the attempt's destination, echoing its sequence number, is
kept as its answer; a later one is not, and neither is one that fails any of these conditions. A valid ACK of a peer
restarts its silence timer in ONLINE and LEAVING, one with the own number sets the duplicate-number-seen flag, and none
of them ends a listen. A malformed transmission outside a window makes the reference unknown and opens a window; inside
one, and in START-UP, it does neither. A transmission received inside a window has ended, and with it an ACK due or
going out (R89, R91 to R93, R95, R99 to R101, R108, R109, R112, R160; log 15). -/
def Obligations.AckAndMalformedReceipt : Prop :=
  ∀ s : State, s.working → s.bus.ownSending = false →
    (∀ (levels : Levels) (f : Frame) (n : Byte) (res : AckResult),
      s.bus.linePhase = .window → checkFrame true (receptionOf levels) = .ok f → f.body = .ack n res →
      (f.source = s.own → exec (.ackReceipt levels) s =
        .next { s.windowHeard with ctl := { s.ctl with duplicateSeen := true } }) ∧
      (f.source ≠ s.own → s.ctl.state = .config ∨ s.ctl.state = .joining →
        exec (.ackReceipt levels) s = .next s.windowHeard) ∧
      (f.source ≠ s.own → s.ctl.state = .online ∨ s.ctl.state = .leaving →
        let x := s.windowHeard.silenceRestarted f.source
        (∀ a : Attempt, s.bus.attempt = some a → a.answeredBy f s.own n →
          (a.answer = none → exec (.ackReceipt levels) s =
            .next { x with bus := { x.bus with attempt := some { a with answer := some res } } }) ∧
          (∀ r, a.answer = some r → exec (.ackReceipt levels) s = .next x)) ∧
        ((∀ a : Attempt, s.bus.attempt = some a → ¬ a.answeredBy f s.own n) →
          exec (.ackReceipt levels) s = .next x))) ∧
    (∀ (levels : Levels) (e : CheckFailure),
      (checkFrame false (receptionOf levels) = .error e → (s.bus.linePhase = .cycle ∨ s.bus.linePhase = .frame) →
        exec (.malformedFrame levels) s = .next (s.windowOpened none)) ∧
      (checkFrame true (receptionOf levels) = .error e → s.bus.linePhase = .window →
        exec (.malformedFrame levels) s = .next s.windowHeard) ∧
      (s.bus.linePhase = .startUp → exec (.malformedFrame levels) s = .next s))

/-! ## Purges and timers -/

/-- What a purge of a peer does, whatever its cause: its frames leave both outbound queues, the send record's number
advances and the rest of it goes, the receive record goes, an attempt to it goes on with its outcome ignored, both
sync flags are set, the state is the cause's, its requests leave the inbound queue, and every open slot homed there is
LOST, while a DONE one becomes FREE when nothing of it is left. It is recorded for a walk, unless it is already pending
or walked, when the purge is absorbed, or the station is not ONLINE (R33, R34, R40, R69, R70, R77, R125, R133, R138,
R139). Over an empty table the walk ends in the same event (R36; log 20). The records of one event stand in ascending
slot order (log 6), which this statement leaves open. That a lost slot has its mark clear is log 21, and the records
kept for the own number, should the purge be of it, are log 23. -/
def Obligations.PurgeOfPeer : Prop :=
  ∀ (s : State) (p : Station) (c : PurgeCause), ∃ lost : List CompletionRecord,
    (∀ u : Tag, lost.filter (fun x => decide (x.slot = u)) =
      s.lostRecordsOf u (fun h => decide (h = p)) (.purge c)) ∧
    (s.purge p c).ctl = s.ctl ∧
    (s.purge p c).dlv = { s.dlv with
      requests := s.dlv.requests.filter (fun e => decide (e.destination ≠ p)),
      responses := s.dlv.responses.filter (fun e => decide (e.destination ≠ p)),
      send := vset s.dlv.send p
        { nextSequence := (s.sendRecord p).nextSequence + 1#8, started := none, attempts := 0,
          lastAnswer := .none, holdOff := none },
      receive := vset s.dlv.receive p none } ∧
    (s.purge p c).roster = { s.roster with peers := vset s.roster.peers p { s.peer p with
      state := (match c with
        | .silence => .absent
        | .noAnswer => .absent
        | .left => .absent
        | .restarted => .present
        | .disowned => .present
        | .mismatch => .mismatched),
      syncOut := true, syncIn := true } } ∧
    (s.purge p c).bus = { s.bus with attempt := s.bus.attempt.map (fun a =>
      if a.kind = .addressed p .request ∨ a.kind = .addressed p .response then { a with ignored := true } else a) } ∧
    (s.purge p c).home.table = s.home.table ∧
    (s.purge p c).home.inbound = s.home.inbound.filter (fun r => decide (r.source ≠ p)) ∧
    (s.ctl.state = .online → s.home.table ≠ [] → s.home.walk = none → s.home.pendingPurge = [] →
      (s.purge p c).home.walk = some { station := p, position := 0 } ∧ (s.purge p c).home.pendingPurge = []) ∧
    (s.ctl.state = .online → s.home.table = [] → p ∉ s.home.pendingPurge →
      (∀ w, s.home.walk = some w → w.station ≠ p) →
      (s.purge p c).home.walk = none ∧ (s.purge p c).home.pendingPurge = []) ∧
    (∀ w, s.ctl.state = .online → s.home.walk = some w → w.goesOn s.home.table = true → w.station ≠ p →
      (s.purge p c).home.walk = some w ∧
        ∀ q, q ∈ (s.purge p c).home.pendingPurge ↔ q = p ∨ q ∈ s.home.pendingPurge) ∧
    ((s.ctl.state ≠ .online ∨ p ∈ s.home.pendingPurge ∨ ∃ w, s.home.walk = some w ∧ w.station = p) →
      (s.purge p c).home =
        { s.home with inbound := s.home.inbound.filter (fun r => decide (r.source ≠ p)) }) ∧
    (s.purge p c).req.completions = s.req.completions ++ lost ∧
    (∀ (u : Tag) (r : SlotRecord), s.slot u = some r → r.home ≠ p → (s.purge p c).slot u = some r) ∧
    (∀ (u : Tag) (r : SlotRecord), s.slot u = some r → r.home = p → r.isOpen = true →
      (r.origin = .command ∨ r.state = .held ∨ r.state = .releasing →
        (s.purge p c).slot u = some { r.ended with recordsPending := r.recordsPending + 1 }) ∧
      (r.origin = .window → r.state ≠ .held → r.state ≠ .releasing →
        (s.purge p c).slot u = r.endedQuietly (frameStands u (s.purge p c).dlv.requests))) ∧
    (∀ (u : Tag) (r : SlotRecord), s.slot u = some r → r.home = p → r.isOpen = false →
      (s.purge p c).slot u = r.doneAfter (frameStands u (s.purge p c).dlv.requests)) ∧
    (∀ u : Tag, s.slot u = none → (s.purge p c).slot u = none) ∧
    (∀ (u : Tag) (n : Nat) (r : SlotRecord), s.port.window = .stalled u n → s.slot u = some r → r.home = p →
      r.isOpen = true → (s.purge p c).port =
        { s.port with window := .idle, dataOut := some (wordOf 0x07#8 c.code) }) ∧
    (s.port.window = .idle → (s.purge p c).port = s.port)

/-- A slot timer's expiry cancels the slot with the cause TIMEOUT: a WAITING slot sends a CANCEL; a PENDING one
whose frame is withdrawable finishes with TIMEOUT UNSENT, and any other PENDING one gets the mark. A hold-off's
expiry makes it absent; a presence timer's, in ONLINE, makes a PRESENCE due and starts the timer anew with the full
interval. A timer that does not run has no expiry (R61, R63, R66, R121, R143; log 5). -/
def Obligations.TimerExpiries : Prop :=
  ∀ s : State, s.working →
    (∀ (t : Tag) (r : SlotRecord) (n : Nat), s.slot t = some r → r.timer = some n →
      (r.state = .waiting → frameStands t s.dlv.requests = false →
        exec (.slotTimerExpiry t) s = .next { s with
          req := { s.req with slots := vset s.req.slots t (some
            { r with state := .cancelling, cancelCause := .timeout, timer := none }) },
          dlv := { s.dlv with
            requests := s.dlv.requests ++ [{ destination := r.home, body := .cancel r.lock t }] } }) ∧
      (∀ e : OutRequest, r.state = .pending → r.mark = false → acquireFrameOf t s.dlv.requests = some e →
        let unsent : RequestController :=
          { slots := vset s.req.slots t (some
              { r with state := .done, cancelCause := .timeout, timer := none, mark := false, hold := none,
                       owed := none, recordsPending := r.recordsPending + 1 }),
            completions := s.req.completions ++ [
              { kind := .timeout, reason := .unsent, origin := r.origin, slot := t, lock := r.lock,
                mode := r.mode, generation := 0#16, value := [] }] }
        (¬ s.frameStarted e → exec (.slotTimerExpiry t) s = .next { s with
          req := unsent,
          dlv := { s.dlv with requests := s.dlv.requests.filter (fun x => decide (x.body.tag ≠ t)) } }) ∧
        (s.frameStarted e → ¬ s.frameInFlight e → (s.sendRecord e.destination).lastAnswer ≠ .none →
          exec (.slotTimerExpiry t) s = .next { s with
            req := unsent,
            dlv := { s.dlv with
              requests := s.dlv.requests.filter (fun x => decide (x.body.tag ≠ t)),
              send := vset s.dlv.send e.destination (s.sendRecord e.destination).unstarted } }) ∧
        (s.frameStarted e → s.frameInFlight e ∨ (s.sendRecord e.destination).lastAnswer = .none →
          exec (.slotTimerExpiry t) s = .next { s with
            req := { s.req with slots := vset s.req.slots t (some
              { r with mark := true, cancelCause := .timeout, timer := none }) } }))) ∧
    (∀ t : Tag, s.slotIs t (fun r => r.timer.isNone) = true → exec (.slotTimerExpiry t) s = .next s) ∧
    (∀ (d : Station) (n : Nat), (s.sendRecord d).holdOff = some n →
      exec (.holdOffExpiry d) s = .next (s.sendNow d { s.sendRecord d with holdOff := none })) ∧
    (∀ d : Station, (s.sendRecord d).holdOff = none → exec (.holdOffExpiry d) s = .next s) ∧
    (∀ n : Nat, s.ctl.state = .online → s.roster.presenceTimer = some n →
      exec .presenceTimerExpiry s = .next { s with
        dlv := { s.dlv with presenceDue := true },
        roster := { s.roster with presenceTimer := some s.ctl.cfg.presenceInterval.toNat } }) ∧
    (s.ctl.state ≠ .online ∨ s.roster.presenceTimer = none → exec .presenceTimerExpiry s = .next s)

/-- When the silence timer of a peer runs out, a PRESENT or UNKNOWN peer becomes ABSENT and is purged with SILENCE,
a MISMATCHED one becomes ABSENT without a purge, an ABSENT one stays; the timer becomes absent in every case, and the
outcome of an attempt to a purged peer is ignored (R149). -/
def Obligations.SilenceTimerExpiry : Prop :=
  ∀ (s : State) (p : Station) (n : Nat), s.working → p ≠ s.own →
    (s.ctl.state = .online ∨ s.ctl.state = .leaving) → (s.peer p).silenceTimer = some n →
    let stopped : State := { s with roster := { s.roster with
      peers := vset s.roster.peers p { s.peer p with silenceTimer := none } } }
    ((s.peer p).state = .present ∨ (s.peer p).state = .unknown → ∃ t, exec (.silenceTimerExpiry p) s = .next t ∧
      t = stopped.purge p .silence ∧
      t.peer p =
        { state := .absent, epoch := (s.peer p).epoch, silenceTimer := none, syncOut := true, syncIn := true } ∧
      (∀ e ∈ t.dlv.requests, e.destination ≠ p) ∧ (∀ e ∈ t.dlv.responses, e.destination ≠ p) ∧
      (∀ (u : Tag) (r : SlotRecord), t.slot u = some r → r.home = p → r.isOpen = false) ∧
      ∀ (a : Attempt) (q : OutQueue), s.bus.attempt = some a → a.kind = .addressed p q →
        t.bus.attempt = some { a with ignored := true }) ∧
    ((s.peer p).state = .mismatched →
      exec (.silenceTimerExpiry p) s = .next { s with roster := { s.roster with
        peers := vset s.roster.peers p { s.peer p with silenceTimer := none, state := .absent } } }) ∧
    ((s.peer p).state = .absent → exec (.silenceTimerExpiry p) s = .next stopped)

/-- The listen timer's expiry enters ONLINE: sequence numbers from the epoch's low byte, no receive record, a
PRESENCE due and FRESH, every peer's flags set and silence timer started (R135, R152, R160, R161). The leaving
timer's expiry enters CONFIG with the epoch kept as the previous one, and no LEAVE due (R148, R157, R163). -/
def Obligations.ListenAndLeavingExpiry : Prop :=
  ∀ (s : State) (n : Nat), s.working →
    (s.ctl.state = .joining → s.ctl.listenTimer = some n →
      ∃ t, exec .listenTimerExpiry s = .next t ∧ s.entersOnline t) ∧
    (s.ctl.state = .leaving → s.ctl.leavingTimer = some n → ∃ t, exec .leavingTimerExpiry s = .next t ∧
      t.ctl = { s.ctl with state := .config, previousEpoch := some s.ctl.cfg.epoch, leavingTimer := none } ∧
      t.home = s.home ∧ t.req = s.req ∧ t.port = s.port ∧ t.dlv = { s.dlv with leaveDue := false } ∧
      t.bus = { s.bus with attempt := s.bus.attempt.map (fun a => { a with ignored := true }) } ∧
      t.roster.fresh = s.roster.fresh ∧ t.roster.presenceTimer = s.roster.presenceTimer ∧
      ∀ p : Station, p ≠ s.own → t.peer p = { s.peer p with silenceTimer := none })

/-! ## Frames as bytes, and what the port reads -/

/-- Every frame the layouts can carry passes the checks of R90, read back as it was built, from the levels it puts on
the line, at the place its kind belongs: no bit of a frame is dropped (R79, R90, R97 to R99, R193). A transmission is
complete exactly when its first character is 55h, its body length is at most 23 and every character up to the second
CRC byte follows the one before it at once and ends with a recessive stop bit: with another first character, a greater
length, a start bit that fails to follow or a dominant stop bit, in the first character as in any other, it is
incomplete (R99). -/
def Obligations.FrameBytesReadBack : Prop :=
  (∀ f : Frame, f.wf = true → checkFrame (decide (f.body.kind = .ack)) (receptionOf f.levels) = .ok f) ∧
  (∀ (bytes : List Byte) (rest : Levels), 5 ≤ bytes.length → (bytes.getD 4 0#8).toNat ≤ 23 →
    bytes.length = 7 + (bytes.getD 4 0#8).toNat →
    receptionOf (characterLevels 0x55#8 ++ bytes.flatMap characterLevels ++ rest) = .complete bytes) ∧
  (∀ (first : Byte) (rest : Levels), first ≠ 0x55#8 →
    receptionOf (characterLevels first ++ rest) = .incomplete) ∧
  (∀ (bytes : List Byte) (rest : Levels), 5 ≤ bytes.length → 23 < (bytes.getD 4 0#8).toNat →
    receptionOf (characterLevels 0x55#8 ++ bytes.flatMap characterLevels ++ rest) = .incomplete) ∧
  (∀ levels : Levels, levels.head? ≠ some true ∨ levels[9]? ≠ some false → receptionOf levels = .incomplete) ∧
  ∀ (bytes : List Byte) (rest : Levels), bytes.length < 5 ∨ bytes.length < 7 + (bytes.getD 4 0#8).toNat →
    rest.head? ≠ some true ∨ rest[9]? ≠ some false →
    receptionOf (characterLevels 0x55#8 ++ bytes.flatMap characterLevels ++ rest) = .incomplete

/-- A read outside the acquire windows drives the word at its address and changes nothing else (R167, R168). What the
words show, in every station state: the part code, the status word's fields, the interrupt enable, the completion and
free-slot counts, the map digest, the submission result, the completion head, the probe result, the slot and roster
views and the last window grant; the configuration words, the staging words and the probe lock ID as stored; and 0 at
the submit and pop words, in the release window and in the gaps of the map (R38, R46, R166, R168, R170 to R172, R178 to
R184, R194). -/
def Obligations.PortWords : Prop :=
  ∀ s : State,
    (s.portFree → ∀ a : PortAddr, a.toNat < 0x1000 ∨ 0x3000 ≤ a.toNat → s.reads a (s.wordAt a)) ∧
    s.wordAt 0x000#14 = 0x1640#16 ∧
    ((s.wordAt 0x001#14).extractLsb' 14 2 = s.ctl.state.code ∧
      ((s.wordAt 0x001#14).extractLsb' 10 4).toNat = s.ctl.number.val ∧
      (s.wordAt 0x001#14).extractLsb' 8 2 = s.ctl.rateClass ∧
      (s.wordAt 0x001#14).extractLsb' 7 1 = s.ctl.resetCause.code ∧
      (s.wordAt 0x001#14).extractLsb' 5 2 = s.ctl.lastStartRefusal.code ∧
      (s.wordAt 0x001#14).getLsbD 4 = s.ctl.duplicateSeen ∧
      (s.wordAt 0x001#14).getLsbD 3 = s.ctl.mapActive ∧
      (s.wordAt 0x001#14).extractLsb' 0 3 = 0#3) ∧
    s.wordAt 0x003#14 = BitVec.ofNat 16 s.req.completions.length ∧
    s.wordAt 0x002#14 = (if s.port.interruptEnable then 1#16 else 0#16) ∧
    (s.wordAt 0x008#14 = s.ctl.cfg.epoch ∧ s.wordAt 0x009#14 = s.ctl.cfg.presenceInterval ∧
      s.wordAt 0x00A#14 = s.ctl.cfg.silenceLimit ∧ s.wordAt 0x00B#14 = s.ctl.cfg.windowWaitLimit ∧
      s.wordAt 0x00C#14 = s.ctl.cfg.rangeCount) ∧
    (∀ k : Fin 8, s.wordAt (BitVec.ofNat 14 (0x010 + 3 * k.val)) = (s.ctl.cfg.ranges.get k).first ∧
      s.wordAt (BitVec.ofNat 14 (0x011 + 3 * k.val)) = (s.ctl.cfg.ranges.get k).last ∧
      s.wordAt (BitVec.ofNat 14 (0x012 + 3 * k.val)) = (s.ctl.cfg.ranges.get k).home) ∧
    (∀ i : Fin 14, s.wordAt (BitVec.ofNat 14 (0x030 + i.val)) = s.port.staging.get i) ∧
    s.wordAt 0x050#14 = s.port.probeLock ∧
    (∀ a : PortAddr, a.toNat = 0x03E ∨ 0x04C ≤ a.toNat ∧ a.toNat ≤ 0x04F ∨ 0x005 ≤ a.toNat ∧ a.toNat ≤ 0x007 ∨
        0x00D ≤ a.toNat ∧ a.toNat ≤ 0x00F ∨ 0x029 ≤ a.toNat ∧ a.toNat ≤ 0x02F ∨
        0x05D ≤ a.toNat ∧ a.toNat ≤ 0x05F ∨ 0x09A ≤ a.toNat ∧ a.toNat ≤ 0x0FFF ∨ 0x3000 ≤ a.toNat →
      s.wordAt a = 0#16) ∧
    s.wordAt 0x028#14 = s.ctl.digest ∧
    s.wordAt 0x03F#14 = s.port.result.code.setWidth 16 ∧
    (s.req.completions = [] → ∀ i : Fin 12, s.wordAt (BitVec.ofNat 14 (0x040 + i.val)) = 0#16) ∧
    (∃ free : List Tag, free.Nodup ∧ (∀ t, t ∈ free ↔ s.slot t = none) ∧
      s.wordAt 0x004#14 = BitVec.ofNat 16 free.length) ∧
    (∀ (c : CompletionRecord) (cs : List CompletionRecord), s.req.completions = c :: cs →
      s.wordAt 0x040#14 = c.kind.code ++ c.reason.code ∧
      (c.value.length ≤ 16 →
        ((s.wordAt 0x041#14).extractLsb' 11 5).toNat = c.value.length) ∧
      (s.wordAt 0x041#14).extractLsb' 10 1 = c.origin.code ∧
      ((s.wordAt 0x041#14).extractLsb' 8 2).toNat = c.mode.code.toNat ∧
      (s.wordAt 0x041#14).extractLsb' 5 3 = 0#3 ∧
      ((s.wordAt 0x041#14).extractLsb' 0 5).toNat = c.slot.val ∧
      s.wordAt 0x042#14 = lockWord c.lock ∧ s.wordAt 0x043#14 = c.generation ∧
      showsValue (fun k => s.wordAt (BitVec.ofNat 14 (0x044 + k))) c.value) ∧
    ((4095 < s.port.probeLock.toNat ∨ findEntry s.home.table (s.port.probeLock.setWidth 12) = none) →
      ∀ i : Fin 12, s.wordAt (BitVec.ofNat 14 (0x051 + i.val)) = 0#16) ∧
    (∀ e : HomeEntry, s.port.probeLock.toNat ≤ 4095 →
      findEntry s.home.table (s.port.probeLock.setWidth 12) = some e →
      (s.wordAt 0x051#14).getLsbD 15 = true ∧ (s.wordAt 0x051#14).getLsbD 14 = false ∧
      (s.wordAt 0x051#14).extractLsb' 12 2 = e.state.code ∧
      (e.waiters.length ≤ 15 → ((s.wordAt 0x051#14).extractLsb' 8 4).toNat = e.waiters.length) ∧
      (e.waiters = [] → (s.wordAt 0x051#14).extractLsb' 0 8 = 0#8) ∧
      (∀ w ws, e.waiters = w :: ws →
        (s.wordAt 0x051#14).getLsbD 7 = true ∧ (s.wordAt 0x051#14).getLsbD 6 = false ∧
        ((s.wordAt 0x051#14).extractLsb' 4 2).toNat = w.mode.code.toNat ∧
        ((s.wordAt 0x051#14).extractLsb' 0 4).toNat = w.station.val) ∧
      (∀ p : Station, (s.wordAt 0x052#14).getLsbD p.val = true ↔ ∃ h ∈ e.holders, h.station = p) ∧
      s.wordAt 0x053#14 = e.generation ∧ s.wordAt 0x054#14 = BitVec.ofNat 16 e.value.length ∧
      showsValue (fun k => s.wordAt (BitVec.ofNat 14 (0x055 + k))) e.value) ∧
    (showsValue (fun k => s.wordAt (BitVec.ofNat 14 (0x090 + k))) s.port.lastGrant.value ∧
      s.wordAt 0x098#14 = BitVec.ofNat 16 s.port.lastGrant.value.length ∧
      s.wordAt 0x099#14 = s.port.lastGrant.generation) ∧
    (∀ t : Tag, s.slot t = none → s.wordAt (BitVec.ofNat 14 (0x060 + t.val)) = 0#16) ∧
    (∀ (t : Tag) (r : SlotRecord), s.slot t = some r →
      s.wordAt (BitVec.ofNat 14 (0x060 + t.val)) = r.state.code ++ r.lock) ∧
    (∀ p : Station, s.wordAt (BitVec.ofNat 14 (0x080 + p.val)) =
      if p = s.own then 0xE000#16
      else (s.peer p).state.code ++ 0#11 ++ BitVec.ofBool (s.peer p).syncOut ++
        BitVec.ofBool (s.peer p).syncIn)

/-! ## Invariants -/

/-- The invariants hold after a power-on reset, with any straps and any commands waiting. -/
def Obligations.InvariantsAtReset : Prop :=
  ∀ (straps : Straps) (waiting : List Instr),
    HomeInv (State.powerOn straps waiting) ∧ RecordInv (State.powerOn straps waiting) ∧
    FrameInv (State.powerOn straps waiting) ∧ LifeInv (State.powerOn straps waiting) ∧
    BusInv (State.powerOn straps waiting) ∧ PeerInv (State.powerOn straps waiting)

/-- Every step keeps the home table lawful, its queue and values within bounds, and the outbound response queue
within its 32 entries (R11 to R19, R21, R114). The ascending order of the table and of an entry's holders is the
model's canonical form of a set (log 22). -/
def Obligations.HomeInvKept : Prop :=
  ∀ s t : State, HomeInv s → s.dlv.responses.length ≤ 32 → step s = .next t →
    HomeInv t ∧ t.dlv.responses.length ≤ 32

/-- Every step keeps each slot's records pending equal to its records in the completion queue, which never holds
more than 64 (R44, R73, R74). -/
def Obligations.RecordInvKept : Prop :=
  ∀ s : State, RecordInv s → s.req.completions.length ≤ 64 ∧ ∀ t : State, step s = .next t → RecordInv t

/-- Every step keeps one frame and one slot per lock, each standing frame of a slot that is not FREE and to its
home (R46, R50, R77). -/
def Obligations.FrameInvKept : Prop := ∀ s t : State, FrameInv s → step s = .next t → FrameInv t

/-- Every step keeps the home controller and both outbound queues empty and no slot open outside ONLINE, no timer on a
WINDOW slot, and a stalled read awaiting its slot's outcome; and every step keeps positions within a cycle, the own
position as R103 computes it, attempts in the phase they belong to, and ACKs and transmissions in progress within a
window (R40, R65, R71, R100 to R112, R134, R167, R186). -/
def Obligations.LifeAndBusInvKept : Prop :=
  ∀ s t : State, step s = .next t → (LifeInv s → LifeInv t) ∧ (BusInv s → BusInv t)

/-- Every step keeps the links lawful: a peer that is not PRESENT has both sync flags set, no frame stands to a
peer that cannot take it, the walk leaves nothing of its station behind its position, and while RST- is asserted the
roster is as the reset left it (R33 to R36, R137, R141, R142, R165). The ascending order of the pending-purge set is the
model's canonical form (log 22). It rests on the invariants of the home, the frames, the life cycle and the line. -/
def Obligations.PeerInvKept : Prop :=
  ∀ s t : State, HomeInv s → FrameInv s → LifeInv s → BusInv s → PeerInv s → step s = .next t → PeerInv t
end

