-- ==== Sys2Proof/Laws/State.lean ====
section
/-! SUPPORT. One lemma for each field of each block update, true by `rfl`, and the reads of the vectors after
their writes: no later proof unfolds a record update. -/

namespace Sys2Proof

/-- Reading the record just replaced. -/
@[simp] theorem vset_get_self {α : Type} {n : Nat} (v : Vector α n) (i : Fin n) (x : α) :
    (vset v i x).get i = x := by
  show (v.set i.val x i.isLt)[i.val] = x
  simp

/-- Reading another record than the one replaced. -/
theorem vset_get_of_ne {α : Type} {n : Nat} (v : Vector α n) (i j : Fin n) (x : α) (h : i ≠ j) :
    (vset v i x).get j = v.get j := by
  have : i.val ≠ j.val := fun e => h (Fin.ext e)
  show (v.set i.val x i.isLt)[j.val] = v[j.val]
  simp [this]

/-- Reading after one record is replaced, both cases at once. -/
theorem vset_get {α : Type} {n : Nat} (v : Vector α n) (i j : Fin n) (x : α) :
    (vset v i x).get j = if i = j then x else v.get j := by
  by_cases h : i = j
  · subst h; simp
  · simp [h, vset_get_of_ne]

/-- Reading after every record is rewritten. -/
@[simp] theorem vmapIdx_get {α β : Type} {n : Nat} (f : Fin n → α → β) (v : Vector α n) (i : Fin n) :
    (vmapIdx f v).get i = f i (v.get i) := by
  simp only [vmapIdx, Vector.get, List.getElem_toArray, List.getElem_map, List.getElem_finRange]
  rfl

end Sys2Proof

namespace Sys2Proof.Machine.State

/-! ## Block updates -/

@[simp] theorem ctl_withCtl (s : State) (x : StationController) : (s.withCtl x).ctl = x := rfl
@[simp] theorem roster_withCtl (s : State) (x : StationController) : (s.withCtl x).roster = s.roster := rfl
@[simp] theorem home_withCtl (s : State) (x : StationController) : (s.withCtl x).home = s.home := rfl
@[simp] theorem req_withCtl (s : State) (x : StationController) : (s.withCtl x).req = s.req := rfl
@[simp] theorem dlv_withCtl (s : State) (x : StationController) : (s.withCtl x).dlv = s.dlv := rfl
@[simp] theorem bus_withCtl (s : State) (x : StationController) : (s.withCtl x).bus = s.bus := rfl
@[simp] theorem port_withCtl (s : State) (x : StationController) : (s.withCtl x).port = s.port := rfl
@[simp] theorem pending_withCtl (s : State) (x : StationController) : (s.withCtl x).pending = s.pending := rfl
@[simp] theorem ctl_withRoster (s : State) (x : PeerRoster) : (s.withRoster x).ctl = s.ctl := rfl
@[simp] theorem roster_withRoster (s : State) (x : PeerRoster) : (s.withRoster x).roster = x := rfl
@[simp] theorem home_withRoster (s : State) (x : PeerRoster) : (s.withRoster x).home = s.home := rfl
@[simp] theorem req_withRoster (s : State) (x : PeerRoster) : (s.withRoster x).req = s.req := rfl
@[simp] theorem dlv_withRoster (s : State) (x : PeerRoster) : (s.withRoster x).dlv = s.dlv := rfl
@[simp] theorem bus_withRoster (s : State) (x : PeerRoster) : (s.withRoster x).bus = s.bus := rfl
@[simp] theorem port_withRoster (s : State) (x : PeerRoster) : (s.withRoster x).port = s.port := rfl
@[simp] theorem pending_withRoster (s : State) (x : PeerRoster) : (s.withRoster x).pending = s.pending := rfl
@[simp] theorem ctl_withHome (s : State) (x : HomeController) : (s.withHome x).ctl = s.ctl := rfl
@[simp] theorem roster_withHome (s : State) (x : HomeController) : (s.withHome x).roster = s.roster := rfl
@[simp] theorem home_withHome (s : State) (x : HomeController) : (s.withHome x).home = x := rfl
@[simp] theorem req_withHome (s : State) (x : HomeController) : (s.withHome x).req = s.req := rfl
@[simp] theorem dlv_withHome (s : State) (x : HomeController) : (s.withHome x).dlv = s.dlv := rfl
@[simp] theorem bus_withHome (s : State) (x : HomeController) : (s.withHome x).bus = s.bus := rfl
@[simp] theorem port_withHome (s : State) (x : HomeController) : (s.withHome x).port = s.port := rfl
@[simp] theorem pending_withHome (s : State) (x : HomeController) : (s.withHome x).pending = s.pending := rfl
@[simp] theorem ctl_withReq (s : State) (x : RequestController) : (s.withReq x).ctl = s.ctl := rfl
@[simp] theorem roster_withReq (s : State) (x : RequestController) : (s.withReq x).roster = s.roster := rfl
@[simp] theorem home_withReq (s : State) (x : RequestController) : (s.withReq x).home = s.home := rfl
@[simp] theorem req_withReq (s : State) (x : RequestController) : (s.withReq x).req = x := rfl
@[simp] theorem dlv_withReq (s : State) (x : RequestController) : (s.withReq x).dlv = s.dlv := rfl
@[simp] theorem bus_withReq (s : State) (x : RequestController) : (s.withReq x).bus = s.bus := rfl
@[simp] theorem port_withReq (s : State) (x : RequestController) : (s.withReq x).port = s.port := rfl
@[simp] theorem pending_withReq (s : State) (x : RequestController) : (s.withReq x).pending = s.pending := rfl
@[simp] theorem ctl_withDlv (s : State) (x : FrameDelivery) : (s.withDlv x).ctl = s.ctl := rfl
@[simp] theorem roster_withDlv (s : State) (x : FrameDelivery) : (s.withDlv x).roster = s.roster := rfl
@[simp] theorem home_withDlv (s : State) (x : FrameDelivery) : (s.withDlv x).home = s.home := rfl
@[simp] theorem req_withDlv (s : State) (x : FrameDelivery) : (s.withDlv x).req = s.req := rfl
@[simp] theorem dlv_withDlv (s : State) (x : FrameDelivery) : (s.withDlv x).dlv = x := rfl
@[simp] theorem bus_withDlv (s : State) (x : FrameDelivery) : (s.withDlv x).bus = s.bus := rfl
@[simp] theorem port_withDlv (s : State) (x : FrameDelivery) : (s.withDlv x).port = s.port := rfl
@[simp] theorem pending_withDlv (s : State) (x : FrameDelivery) : (s.withDlv x).pending = s.pending := rfl
@[simp] theorem ctl_withBus (s : State) (x : BusAccess) : (s.withBus x).ctl = s.ctl := rfl
@[simp] theorem roster_withBus (s : State) (x : BusAccess) : (s.withBus x).roster = s.roster := rfl
@[simp] theorem home_withBus (s : State) (x : BusAccess) : (s.withBus x).home = s.home := rfl
@[simp] theorem req_withBus (s : State) (x : BusAccess) : (s.withBus x).req = s.req := rfl
@[simp] theorem dlv_withBus (s : State) (x : BusAccess) : (s.withBus x).dlv = s.dlv := rfl
@[simp] theorem bus_withBus (s : State) (x : BusAccess) : (s.withBus x).bus = x := rfl
@[simp] theorem port_withBus (s : State) (x : BusAccess) : (s.withBus x).port = s.port := rfl
@[simp] theorem pending_withBus (s : State) (x : BusAccess) : (s.withBus x).pending = s.pending := rfl
@[simp] theorem ctl_withPort (s : State) (x : LocalPort) : (s.withPort x).ctl = s.ctl := rfl
@[simp] theorem roster_withPort (s : State) (x : LocalPort) : (s.withPort x).roster = s.roster := rfl
@[simp] theorem home_withPort (s : State) (x : LocalPort) : (s.withPort x).home = s.home := rfl
@[simp] theorem req_withPort (s : State) (x : LocalPort) : (s.withPort x).req = s.req := rfl
@[simp] theorem dlv_withPort (s : State) (x : LocalPort) : (s.withPort x).dlv = s.dlv := rfl
@[simp] theorem bus_withPort (s : State) (x : LocalPort) : (s.withPort x).bus = s.bus := rfl
@[simp] theorem port_withPort (s : State) (x : LocalPort) : (s.withPort x).port = x := rfl
@[simp] theorem pending_withPort (s : State) (x : LocalPort) : (s.withPort x).pending = s.pending := rfl
@[simp] theorem ctl_withPending (s : State) (x : List Instr) : (s.withPending x).ctl = s.ctl := rfl
@[simp] theorem roster_withPending (s : State) (x : List Instr) : (s.withPending x).roster = s.roster := rfl
@[simp] theorem home_withPending (s : State) (x : List Instr) : (s.withPending x).home = s.home := rfl
@[simp] theorem req_withPending (s : State) (x : List Instr) : (s.withPending x).req = s.req := rfl
@[simp] theorem dlv_withPending (s : State) (x : List Instr) : (s.withPending x).dlv = s.dlv := rfl
@[simp] theorem bus_withPending (s : State) (x : List Instr) : (s.withPending x).bus = s.bus := rfl
@[simp] theorem port_withPending (s : State) (x : List Instr) : (s.withPending x).port = s.port := rfl
@[simp] theorem pending_withPending (s : State) (x : List Instr) : (s.withPending x).pending = x := rfl

/-- Of two replacements of one block the later counts. -/
@[simp] theorem withCtl_withCtl (s : State) (x y : StationController) : (s.withCtl x).withCtl y = s.withCtl y := rfl
/-- Of two replacements of one block the later counts. -/
@[simp] theorem withRoster_withRoster (s : State) (x y : PeerRoster) : (s.withRoster x).withRoster y = s.withRoster y := rfl
/-- Of two replacements of one block the later counts. -/
@[simp] theorem withHome_withHome (s : State) (x y : HomeController) : (s.withHome x).withHome y = s.withHome y := rfl
/-- Of two replacements of one block the later counts. -/
@[simp] theorem withReq_withReq (s : State) (x y : RequestController) : (s.withReq x).withReq y = s.withReq y := rfl
/-- Of two replacements of one block the later counts. -/
@[simp] theorem withDlv_withDlv (s : State) (x y : FrameDelivery) : (s.withDlv x).withDlv y = s.withDlv y := rfl
/-- Of two replacements of one block the later counts. -/
@[simp] theorem withBus_withBus (s : State) (x y : BusAccess) : (s.withBus x).withBus y = s.withBus y := rfl
/-- Of two replacements of one block the later counts. -/
@[simp] theorem withPort_withPort (s : State) (x y : LocalPort) : (s.withPort x).withPort y = s.withPort y := rfl
/-- Of two replacements of one block the later counts. -/
@[simp] theorem withPending_withPending (s : State) (x y : List Instr) : (s.withPending x).withPending y = s.withPending y := rfl

/-! ## Vectors of records -/

/-- The slot just written. -/
@[simp] theorem slot_setSlot (s : State) (t : Tag) (r : Option SlotRecord) : (s.setSlot t r).slot t = r := by
  simp [slot, setSlot]

/-- Another slot than the one written. -/
theorem slot_setSlot_of_ne (s : State) (t u : Tag) (r : Option SlotRecord) (h : t ≠ u) :
    (s.setSlot t r).slot u = s.slot u := by
  simp [slot, setSlot, vset_get_of_ne _ _ _ _ h]

/-- The peer record just written. -/
@[simp] theorem peer_setPeer (s : State) (p : Station) (r : PeerRecord) : (s.setPeer p r).peer p = r := by
  simp [peer, setPeer]

/-- Another peer record than the one written. -/
theorem peer_setPeer_of_ne (s : State) (p q : Station) (r : PeerRecord) (h : p ≠ q) :
    (s.setPeer p r).peer q = s.peer q := by
  simp [peer, setPeer, vset_get_of_ne _ _ _ _ h]

/-- Every peer's record is rewritten, and no other. -/
theorem peer_everyPeer (s : State) (f : PeerRecord → PeerRecord) (p : Station) :
    (s.everyPeer f).peer p = if p = s.own then s.peer p else f (s.peer p) := by
  simp [peer, everyPeer]

/-- The send record just written. -/
@[simp] theorem sendRecord_setSend (s : State) (p : Station) (r : SendRecord) :
    (s.setSend p r).sendRecord p = r := by
  simp [sendRecord, setSend]

/-- Another send record than the one written. -/
theorem sendRecord_setSend_of_ne (s : State) (p q : Station) (r : SendRecord) (h : p ≠ q) :
    (s.setSend p r).sendRecord q = s.sendRecord q := by
  simp [sendRecord, setSend, vset_get_of_ne _ _ _ _ h]

/-- The receive record just written. -/
@[simp] theorem receiveRecord_setReceive (s : State) (p : Station) (r : Option ReceiveRecord) :
    (s.setReceive p r).receiveRecord p = r := by
  simp [receiveRecord, setReceive]

/-- Another receive record than the one written. -/
theorem receiveRecord_setReceive_of_ne (s : State) (p q : Station) (r : Option ReceiveRecord) (h : p ≠ q) :
    (s.setReceive p r).receiveRecord q = s.receiveRecord q := by
  simp [receiveRecord, setReceive, vset_get_of_ne _ _ _ _ h]

end Sys2Proof.Machine.State
end

