-- ==== Sys2Proof/Laws/Ops.lean ====
section
/-! SUPPORT. The blocks that each named write of the state leaves as they are: `<operation>_<block>`. -/

namespace Sys2Proof.Machine.State

@[simp] theorem setPeer_ctl (s : State) (p : Station) (r : PeerRecord) : (s.setPeer p r).ctl = s.ctl := by
  rfl
@[simp] theorem setPeer_home (s : State) (p : Station) (r : PeerRecord) : (s.setPeer p r).home = s.home := by
  rfl
@[simp] theorem setPeer_req (s : State) (p : Station) (r : PeerRecord) : (s.setPeer p r).req = s.req := by
  rfl
@[simp] theorem setPeer_dlv (s : State) (p : Station) (r : PeerRecord) : (s.setPeer p r).dlv = s.dlv := by
  rfl
@[simp] theorem setPeer_bus (s : State) (p : Station) (r : PeerRecord) : (s.setPeer p r).bus = s.bus := by
  rfl
@[simp] theorem setPeer_port (s : State) (p : Station) (r : PeerRecord) : (s.setPeer p r).port = s.port := by
  rfl
@[simp] theorem setPeer_pending (s : State) (p : Station) (r : PeerRecord) : (s.setPeer p r).pending = s.pending := by
  rfl

@[simp] theorem everyPeer_ctl (s : State) (f : PeerRecord → PeerRecord) : (s.everyPeer f).ctl = s.ctl := by
  rfl
@[simp] theorem everyPeer_home (s : State) (f : PeerRecord → PeerRecord) : (s.everyPeer f).home = s.home := by
  rfl
@[simp] theorem everyPeer_req (s : State) (f : PeerRecord → PeerRecord) : (s.everyPeer f).req = s.req := by
  rfl
@[simp] theorem everyPeer_dlv (s : State) (f : PeerRecord → PeerRecord) : (s.everyPeer f).dlv = s.dlv := by
  rfl
@[simp] theorem everyPeer_bus (s : State) (f : PeerRecord → PeerRecord) : (s.everyPeer f).bus = s.bus := by
  rfl
@[simp] theorem everyPeer_port (s : State) (f : PeerRecord → PeerRecord) : (s.everyPeer f).port = s.port := by
  rfl
@[simp] theorem everyPeer_pending (s : State) (f : PeerRecord → PeerRecord) : (s.everyPeer f).pending = s.pending := by
  rfl

@[simp] theorem setSlot_ctl (s : State) (t : Tag) (r : Option SlotRecord) : (s.setSlot t r).ctl = s.ctl := by
  rfl
@[simp] theorem setSlot_roster (s : State) (t : Tag) (r : Option SlotRecord) : (s.setSlot t r).roster = s.roster := by
  rfl
@[simp] theorem setSlot_home (s : State) (t : Tag) (r : Option SlotRecord) : (s.setSlot t r).home = s.home := by
  rfl
@[simp] theorem setSlot_dlv (s : State) (t : Tag) (r : Option SlotRecord) : (s.setSlot t r).dlv = s.dlv := by
  rfl
@[simp] theorem setSlot_bus (s : State) (t : Tag) (r : Option SlotRecord) : (s.setSlot t r).bus = s.bus := by
  rfl
@[simp] theorem setSlot_port (s : State) (t : Tag) (r : Option SlotRecord) : (s.setSlot t r).port = s.port := by
  rfl
@[simp] theorem setSlot_pending (s : State) (t : Tag) (r : Option SlotRecord) : (s.setSlot t r).pending = s.pending := by
  rfl

@[simp] theorem setSend_ctl (s : State) (p : Station) (r : SendRecord) : (s.setSend p r).ctl = s.ctl := by
  rfl
@[simp] theorem setSend_roster (s : State) (p : Station) (r : SendRecord) : (s.setSend p r).roster = s.roster := by
  rfl
@[simp] theorem setSend_home (s : State) (p : Station) (r : SendRecord) : (s.setSend p r).home = s.home := by
  rfl
@[simp] theorem setSend_req (s : State) (p : Station) (r : SendRecord) : (s.setSend p r).req = s.req := by
  rfl
@[simp] theorem setSend_bus (s : State) (p : Station) (r : SendRecord) : (s.setSend p r).bus = s.bus := by
  rfl
@[simp] theorem setSend_port (s : State) (p : Station) (r : SendRecord) : (s.setSend p r).port = s.port := by
  rfl
@[simp] theorem setSend_pending (s : State) (p : Station) (r : SendRecord) : (s.setSend p r).pending = s.pending := by
  rfl

@[simp] theorem setReceive_ctl (s : State) (p : Station) (r : Option ReceiveRecord) : (s.setReceive p r).ctl = s.ctl := by
  rfl
@[simp] theorem setReceive_roster (s : State) (p : Station) (r : Option ReceiveRecord) : (s.setReceive p r).roster = s.roster := by
  rfl
@[simp] theorem setReceive_home (s : State) (p : Station) (r : Option ReceiveRecord) : (s.setReceive p r).home = s.home := by
  rfl
@[simp] theorem setReceive_req (s : State) (p : Station) (r : Option ReceiveRecord) : (s.setReceive p r).req = s.req := by
  rfl
@[simp] theorem setReceive_bus (s : State) (p : Station) (r : Option ReceiveRecord) : (s.setReceive p r).bus = s.bus := by
  rfl
@[simp] theorem setReceive_port (s : State) (p : Station) (r : Option ReceiveRecord) : (s.setReceive p r).port = s.port := by
  rfl
@[simp] theorem setReceive_pending (s : State) (p : Station) (r : Option ReceiveRecord) : (s.setReceive p r).pending = s.pending := by
  rfl

@[simp] theorem appendRequest_ctl (s : State) (e : OutRequest) : (s.appendRequest e).ctl = s.ctl := by
  rfl
@[simp] theorem appendRequest_roster (s : State) (e : OutRequest) : (s.appendRequest e).roster = s.roster := by
  rfl
@[simp] theorem appendRequest_home (s : State) (e : OutRequest) : (s.appendRequest e).home = s.home := by
  rfl
@[simp] theorem appendRequest_req (s : State) (e : OutRequest) : (s.appendRequest e).req = s.req := by
  rfl
@[simp] theorem appendRequest_bus (s : State) (e : OutRequest) : (s.appendRequest e).bus = s.bus := by
  rfl
@[simp] theorem appendRequest_port (s : State) (e : OutRequest) : (s.appendRequest e).port = s.port := by
  rfl
@[simp] theorem appendRequest_pending (s : State) (e : OutRequest) : (s.appendRequest e).pending = s.pending := by
  rfl

@[simp] theorem appendResponse_ctl (s : State) (e : OutResponse) : (s.appendResponse e).ctl = s.ctl := by
  rfl
@[simp] theorem appendResponse_roster (s : State) (e : OutResponse) : (s.appendResponse e).roster = s.roster := by
  rfl
@[simp] theorem appendResponse_home (s : State) (e : OutResponse) : (s.appendResponse e).home = s.home := by
  rfl
@[simp] theorem appendResponse_req (s : State) (e : OutResponse) : (s.appendResponse e).req = s.req := by
  rfl
@[simp] theorem appendResponse_bus (s : State) (e : OutResponse) : (s.appendResponse e).bus = s.bus := by
  rfl
@[simp] theorem appendResponse_port (s : State) (e : OutResponse) : (s.appendResponse e).port = s.port := by
  rfl
@[simp] theorem appendResponse_pending (s : State) (e : OutResponse) : (s.appendResponse e).pending = s.pending := by
  rfl

@[simp] theorem postRecords_ctl (s : State) (rs : List CompletionRecord) : (s.postRecords rs).ctl = s.ctl := by
  rfl
@[simp] theorem postRecords_roster (s : State) (rs : List CompletionRecord) : (s.postRecords rs).roster = s.roster := by
  rfl
@[simp] theorem postRecords_home (s : State) (rs : List CompletionRecord) : (s.postRecords rs).home = s.home := by
  rfl
@[simp] theorem postRecords_dlv (s : State) (rs : List CompletionRecord) : (s.postRecords rs).dlv = s.dlv := by
  rfl
@[simp] theorem postRecords_bus (s : State) (rs : List CompletionRecord) : (s.postRecords rs).bus = s.bus := by
  rfl
@[simp] theorem postRecords_port (s : State) (rs : List CompletionRecord) : (s.postRecords rs).port = s.port := by
  rfl
@[simp] theorem postRecords_pending (s : State) (rs : List CompletionRecord) : (s.postRecords rs).pending = s.pending := by
  rfl

@[simp] theorem setResult_ctl (s : State) (r : SubmissionResult) : (s.setResult r).ctl = s.ctl := by
  rfl
@[simp] theorem setResult_roster (s : State) (r : SubmissionResult) : (s.setResult r).roster = s.roster := by
  rfl
@[simp] theorem setResult_home (s : State) (r : SubmissionResult) : (s.setResult r).home = s.home := by
  rfl
@[simp] theorem setResult_req (s : State) (r : SubmissionResult) : (s.setResult r).req = s.req := by
  rfl
@[simp] theorem setResult_dlv (s : State) (r : SubmissionResult) : (s.setResult r).dlv = s.dlv := by
  rfl
@[simp] theorem setResult_bus (s : State) (r : SubmissionResult) : (s.setResult r).bus = s.bus := by
  rfl
@[simp] theorem setResult_pending (s : State) (r : SubmissionResult) : (s.setResult r).pending = s.pending := by
  rfl

@[simp] theorem setPresenceDue_ctl (s : State) : (s.setPresenceDue).ctl = s.ctl := by
  unfold setPresenceDue; repeat' split
  all_goals simp
@[simp] theorem setPresenceDue_roster (s : State) : (s.setPresenceDue).roster = s.roster := by
  unfold setPresenceDue; repeat' split
  all_goals simp
@[simp] theorem setPresenceDue_home (s : State) : (s.setPresenceDue).home = s.home := by
  unfold setPresenceDue; repeat' split
  all_goals simp
@[simp] theorem setPresenceDue_req (s : State) : (s.setPresenceDue).req = s.req := by
  unfold setPresenceDue; repeat' split
  all_goals simp
@[simp] theorem setPresenceDue_bus (s : State) : (s.setPresenceDue).bus = s.bus := by
  unfold setPresenceDue; repeat' split
  all_goals simp
@[simp] theorem setPresenceDue_port (s : State) : (s.setPresenceDue).port = s.port := by
  unfold setPresenceDue; repeat' split
  all_goals simp
@[simp] theorem setPresenceDue_pending (s : State) : (s.setPresenceDue).pending = s.pending := by
  unfold setPresenceDue; repeat' split
  all_goals simp

end Sys2Proof.Machine.State
end

