-- ==== Sys2Proof/Laws/Requests.lean ====
section
/-! SUPPORT. The blocks that each operation of the request controller and each part of a purge leaves as they
are: `<operation>_<block>`. -/

namespace Sys2Proof.Machine.State

@[simp] theorem withdraw_ctl (s : State) (t : Tag) (e : OutRequest) : (s.withdraw t e).ctl = s.ctl := by
  unfold withdraw; dsimp only; split
  all_goals simp
@[simp] theorem withdraw_roster (s : State) (t : Tag) (e : OutRequest) : (s.withdraw t e).roster = s.roster := by
  unfold withdraw; dsimp only; split
  all_goals simp
@[simp] theorem withdraw_home (s : State) (t : Tag) (e : OutRequest) : (s.withdraw t e).home = s.home := by
  unfold withdraw; dsimp only; split
  all_goals simp
@[simp] theorem withdraw_req (s : State) (t : Tag) (e : OutRequest) : (s.withdraw t e).req = s.req := by
  unfold withdraw; dsimp only; split
  all_goals simp
@[simp] theorem withdraw_bus (s : State) (t : Tag) (e : OutRequest) : (s.withdraw t e).bus = s.bus := by
  unfold withdraw; dsimp only; split
  all_goals simp
@[simp] theorem withdraw_port (s : State) (t : Tag) (e : OutRequest) : (s.withdraw t e).port = s.port := by
  unfold withdraw; dsimp only; split
  all_goals simp
@[simp] theorem withdraw_pending (s : State) (t : Tag) (e : OutRequest) : (s.withdraw t e).pending = s.pending := by
  unfold withdraw; dsimp only; split
  all_goals simp

@[simp] theorem finishSlot_ctl (s : State) (t : Tag) (r : SlotRecord) (rec : Option CompletionRecord) : (s.finishSlot t r rec).ctl = s.ctl := by
  simp [finishSlot]
@[simp] theorem finishSlot_roster (s : State) (t : Tag) (r : SlotRecord) (rec : Option CompletionRecord) : (s.finishSlot t r rec).roster = s.roster := by
  simp [finishSlot]
@[simp] theorem finishSlot_home (s : State) (t : Tag) (r : SlotRecord) (rec : Option CompletionRecord) : (s.finishSlot t r rec).home = s.home := by
  simp [finishSlot]
@[simp] theorem finishSlot_dlv (s : State) (t : Tag) (r : SlotRecord) (rec : Option CompletionRecord) : (s.finishSlot t r rec).dlv = s.dlv := by
  simp [finishSlot]
@[simp] theorem finishSlot_bus (s : State) (t : Tag) (r : SlotRecord) (rec : Option CompletionRecord) : (s.finishSlot t r rec).bus = s.bus := by
  simp [finishSlot]
@[simp] theorem finishSlot_port (s : State) (t : Tag) (r : SlotRecord) (rec : Option CompletionRecord) : (s.finishSlot t r rec).port = s.port := by
  simp [finishSlot]
@[simp] theorem finishSlot_pending (s : State) (t : Tag) (r : SlotRecord) (rec : Option CompletionRecord) : (s.finishSlot t r rec).pending = s.pending := by
  simp [finishSlot]

@[simp] theorem postAndKeep_ctl (s : State) (t : Tag) (r : SlotRecord) (rec : CompletionRecord) : (s.postAndKeep t r rec).ctl = s.ctl := by
  simp [postAndKeep]
@[simp] theorem postAndKeep_roster (s : State) (t : Tag) (r : SlotRecord) (rec : CompletionRecord) : (s.postAndKeep t r rec).roster = s.roster := by
  simp [postAndKeep]
@[simp] theorem postAndKeep_home (s : State) (t : Tag) (r : SlotRecord) (rec : CompletionRecord) : (s.postAndKeep t r rec).home = s.home := by
  simp [postAndKeep]
@[simp] theorem postAndKeep_dlv (s : State) (t : Tag) (r : SlotRecord) (rec : CompletionRecord) : (s.postAndKeep t r rec).dlv = s.dlv := by
  simp [postAndKeep]
@[simp] theorem postAndKeep_bus (s : State) (t : Tag) (r : SlotRecord) (rec : CompletionRecord) : (s.postAndKeep t r rec).bus = s.bus := by
  simp [postAndKeep]
@[simp] theorem postAndKeep_port (s : State) (t : Tag) (r : SlotRecord) (rec : CompletionRecord) : (s.postAndKeep t r rec).port = s.port := by
  simp [postAndKeep]
@[simp] theorem postAndKeep_pending (s : State) (t : Tag) (r : SlotRecord) (rec : CompletionRecord) : (s.postAndKeep t r rec).pending = s.pending := by
  simp [postAndKeep]

@[simp] theorem sendOrOwe_ctl (s : State) (t : Tag) (r : SlotRecord) (b : RequestBody) : (s.sendOrOwe t r b).ctl = s.ctl := by
  unfold sendOrOwe; repeat' split
  all_goals simp
@[simp] theorem sendOrOwe_roster (s : State) (t : Tag) (r : SlotRecord) (b : RequestBody) : (s.sendOrOwe t r b).roster = s.roster := by
  unfold sendOrOwe; repeat' split
  all_goals simp
@[simp] theorem sendOrOwe_home (s : State) (t : Tag) (r : SlotRecord) (b : RequestBody) : (s.sendOrOwe t r b).home = s.home := by
  unfold sendOrOwe; repeat' split
  all_goals simp
@[simp] theorem sendOrOwe_bus (s : State) (t : Tag) (r : SlotRecord) (b : RequestBody) : (s.sendOrOwe t r b).bus = s.bus := by
  unfold sendOrOwe; repeat' split
  all_goals simp
@[simp] theorem sendOrOwe_port (s : State) (t : Tag) (r : SlotRecord) (b : RequestBody) : (s.sendOrOwe t r b).port = s.port := by
  unfold sendOrOwe; repeat' split
  all_goals simp
@[simp] theorem sendOrOwe_pending (s : State) (t : Tag) (r : SlotRecord) (b : RequestBody) : (s.sendOrOwe t r b).pending = s.pending := by
  unfold sendOrOwe; repeat' split
  all_goals simp

@[simp] theorem endRead_ctl (s : State) (t : Tag) (w : Word) : (s.endRead t w).ctl = s.ctl := by
  unfold endRead; repeat' split
  all_goals simp
@[simp] theorem endRead_roster (s : State) (t : Tag) (w : Word) : (s.endRead t w).roster = s.roster := by
  unfold endRead; repeat' split
  all_goals simp
@[simp] theorem endRead_home (s : State) (t : Tag) (w : Word) : (s.endRead t w).home = s.home := by
  unfold endRead; repeat' split
  all_goals simp
@[simp] theorem endRead_req (s : State) (t : Tag) (w : Word) : (s.endRead t w).req = s.req := by
  unfold endRead; repeat' split
  all_goals simp
@[simp] theorem endRead_dlv (s : State) (t : Tag) (w : Word) : (s.endRead t w).dlv = s.dlv := by
  unfold endRead; repeat' split
  all_goals simp
@[simp] theorem endRead_bus (s : State) (t : Tag) (w : Word) : (s.endRead t w).bus = s.bus := by
  unfold endRead; repeat' split
  all_goals simp
@[simp] theorem endRead_pending (s : State) (t : Tag) (w : Word) : (s.endRead t w).pending = s.pending := by
  unfold endRead; repeat' split
  all_goals simp

@[simp] theorem endReadGranted_ctl (s : State) (t : Tag) (g : Word) (v : List Byte) : (s.endReadGranted t g v).ctl = s.ctl := by
  unfold endReadGranted; repeat' split
  all_goals simp
@[simp] theorem endReadGranted_roster (s : State) (t : Tag) (g : Word) (v : List Byte) : (s.endReadGranted t g v).roster = s.roster := by
  unfold endReadGranted; repeat' split
  all_goals simp
@[simp] theorem endReadGranted_home (s : State) (t : Tag) (g : Word) (v : List Byte) : (s.endReadGranted t g v).home = s.home := by
  unfold endReadGranted; repeat' split
  all_goals simp
@[simp] theorem endReadGranted_req (s : State) (t : Tag) (g : Word) (v : List Byte) : (s.endReadGranted t g v).req = s.req := by
  unfold endReadGranted; repeat' split
  all_goals simp
@[simp] theorem endReadGranted_dlv (s : State) (t : Tag) (g : Word) (v : List Byte) : (s.endReadGranted t g v).dlv = s.dlv := by
  unfold endReadGranted; repeat' split
  all_goals simp
@[simp] theorem endReadGranted_bus (s : State) (t : Tag) (g : Word) (v : List Byte) : (s.endReadGranted t g v).bus = s.bus := by
  unfold endReadGranted; repeat' split
  all_goals simp
@[simp] theorem endReadGranted_pending (s : State) (t : Tag) (g : Word) (v : List Byte) : (s.endReadGranted t g v).pending = s.pending := by
  unfold endReadGranted; repeat' split
  all_goals simp

@[simp] theorem applyGrant_ctl (s : State) (t : Tag) (r : SlotRecord) (g : Word) (v : List Byte) : (s.applyGrant t r g v).ctl = s.ctl := by
  unfold applyGrant; dsimp only; split
  all_goals simp
@[simp] theorem applyGrant_roster (s : State) (t : Tag) (r : SlotRecord) (g : Word) (v : List Byte) : (s.applyGrant t r g v).roster = s.roster := by
  unfold applyGrant; dsimp only; split
  all_goals simp
@[simp] theorem applyGrant_home (s : State) (t : Tag) (r : SlotRecord) (g : Word) (v : List Byte) : (s.applyGrant t r g v).home = s.home := by
  unfold applyGrant; dsimp only; split
  all_goals simp
@[simp] theorem applyGrant_dlv (s : State) (t : Tag) (r : SlotRecord) (g : Word) (v : List Byte) : (s.applyGrant t r g v).dlv = s.dlv := by
  unfold applyGrant; dsimp only; split
  all_goals simp
@[simp] theorem applyGrant_bus (s : State) (t : Tag) (r : SlotRecord) (g : Word) (v : List Byte) : (s.applyGrant t r g v).bus = s.bus := by
  unfold applyGrant; dsimp only; split
  all_goals simp
@[simp] theorem applyGrant_pending (s : State) (t : Tag) (r : SlotRecord) (g : Word) (v : List Byte) : (s.applyGrant t r g v).pending = s.pending := by
  unfold applyGrant; dsimp only; split
  all_goals simp

@[simp] theorem applyDeny_ctl (s : State) (t : Tag) (r : SlotRecord) (why : DenyReason) : (s.applyDeny t r why).ctl = s.ctl := by
  unfold applyDeny; repeat' split
  all_goals simp
@[simp] theorem applyDeny_roster (s : State) (t : Tag) (r : SlotRecord) (why : DenyReason) : (s.applyDeny t r why).roster = s.roster := by
  unfold applyDeny; repeat' split
  all_goals simp
@[simp] theorem applyDeny_home (s : State) (t : Tag) (r : SlotRecord) (why : DenyReason) : (s.applyDeny t r why).home = s.home := by
  unfold applyDeny; repeat' split
  all_goals simp
@[simp] theorem applyDeny_dlv (s : State) (t : Tag) (r : SlotRecord) (why : DenyReason) : (s.applyDeny t r why).dlv = s.dlv := by
  unfold applyDeny; repeat' split
  all_goals simp
@[simp] theorem applyDeny_bus (s : State) (t : Tag) (r : SlotRecord) (why : DenyReason) : (s.applyDeny t r why).bus = s.bus := by
  unfold applyDeny; repeat' split
  all_goals simp
@[simp] theorem applyDeny_pending (s : State) (t : Tag) (r : SlotRecord) (why : DenyReason) : (s.applyDeny t r why).pending = s.pending := by
  unfold applyDeny; repeat' split
  all_goals simp

@[simp] theorem applyToMarked_ctl (s : State) (t : Tag) (r : SlotRecord) : (s.applyToMarked t r).ctl = s.ctl := by
  simp [applyToMarked]
@[simp] theorem applyToMarked_roster (s : State) (t : Tag) (r : SlotRecord) : (s.applyToMarked t r).roster = s.roster := by
  simp [applyToMarked]
@[simp] theorem applyToMarked_home (s : State) (t : Tag) (r : SlotRecord) : (s.applyToMarked t r).home = s.home := by
  simp [applyToMarked]
@[simp] theorem applyToMarked_bus (s : State) (t : Tag) (r : SlotRecord) : (s.applyToMarked t r).bus = s.bus := by
  simp [applyToMarked]
@[simp] theorem applyToMarked_port (s : State) (t : Tag) (r : SlotRecord) : (s.applyToMarked t r).port = s.port := by
  simp [applyToMarked]
@[simp] theorem applyToMarked_pending (s : State) (t : Tag) (r : SlotRecord) : (s.applyToMarked t r).pending = s.pending := by
  simp [applyToMarked]

@[simp] theorem applyResponse_ctl (s : State) (src : Station) (b : ResponseBody) : (s.applyResponse src b).ctl = s.ctl := by
  unfold applyResponse; repeat' split
  all_goals simp
@[simp] theorem applyResponse_roster (s : State) (src : Station) (b : ResponseBody) : (s.applyResponse src b).roster = s.roster := by
  unfold applyResponse; repeat' split
  all_goals simp
@[simp] theorem applyResponse_home (s : State) (src : Station) (b : ResponseBody) : (s.applyResponse src b).home = s.home := by
  unfold applyResponse; repeat' split
  all_goals simp
@[simp] theorem applyResponse_bus (s : State) (src : Station) (b : ResponseBody) : (s.applyResponse src b).bus = s.bus := by
  unfold applyResponse; repeat' split
  all_goals simp
@[simp] theorem applyResponse_pending (s : State) (src : Station) (b : ResponseBody) : (s.applyResponse src b).pending = s.pending := by
  unfold applyResponse; repeat' split
  all_goals simp

@[simp] theorem sendOwed_ctl (s : State) (t : Tag) (r : SlotRecord) : (s.sendOwed t r).ctl = s.ctl := by
  unfold sendOwed; repeat' split
  all_goals simp
@[simp] theorem sendOwed_roster (s : State) (t : Tag) (r : SlotRecord) : (s.sendOwed t r).roster = s.roster := by
  unfold sendOwed; repeat' split
  all_goals simp
@[simp] theorem sendOwed_home (s : State) (t : Tag) (r : SlotRecord) : (s.sendOwed t r).home = s.home := by
  unfold sendOwed; repeat' split
  all_goals simp
@[simp] theorem sendOwed_bus (s : State) (t : Tag) (r : SlotRecord) : (s.sendOwed t r).bus = s.bus := by
  unfold sendOwed; repeat' split
  all_goals simp
@[simp] theorem sendOwed_port (s : State) (t : Tag) (r : SlotRecord) : (s.sendOwed t r).port = s.port := by
  unfold sendOwed; repeat' split
  all_goals simp
@[simp] theorem sendOwed_pending (s : State) (t : Tag) (r : SlotRecord) : (s.sendOwed t r).pending = s.pending := by
  unfold sendOwed; repeat' split
  all_goals simp

@[simp] theorem requestDeparted_ctl (s : State) (t : Tag) (isAcquire : Bool) : (s.requestDeparted t isAcquire).ctl = s.ctl := by
  unfold requestDeparted; repeat' split
  all_goals simp
@[simp] theorem requestDeparted_roster (s : State) (t : Tag) (isAcquire : Bool) : (s.requestDeparted t isAcquire).roster = s.roster := by
  unfold requestDeparted; repeat' split
  all_goals simp
@[simp] theorem requestDeparted_home (s : State) (t : Tag) (isAcquire : Bool) : (s.requestDeparted t isAcquire).home = s.home := by
  unfold requestDeparted; repeat' split
  all_goals simp
@[simp] theorem requestDeparted_bus (s : State) (t : Tag) (isAcquire : Bool) : (s.requestDeparted t isAcquire).bus = s.bus := by
  unfold requestDeparted; repeat' split
  all_goals simp
@[simp] theorem requestDeparted_port (s : State) (t : Tag) (isAcquire : Bool) : (s.requestDeparted t isAcquire).port = s.port := by
  unfold requestDeparted; repeat' split
  all_goals simp
@[simp] theorem requestDeparted_pending (s : State) (t : Tag) (isAcquire : Bool) : (s.requestDeparted t isAcquire).pending = s.pending := by
  unfold requestDeparted; repeat' split
  all_goals simp

@[simp] theorem withdrawAndFinish_ctl (s : State) (t : Tag) (r : SlotRecord) (e : OutRequest) : (s.withdrawAndFinish t r e).ctl = s.ctl := by
  simp [withdrawAndFinish]
@[simp] theorem withdrawAndFinish_roster (s : State) (t : Tag) (r : SlotRecord) (e : OutRequest) : (s.withdrawAndFinish t r e).roster = s.roster := by
  simp [withdrawAndFinish]
@[simp] theorem withdrawAndFinish_home (s : State) (t : Tag) (r : SlotRecord) (e : OutRequest) : (s.withdrawAndFinish t r e).home = s.home := by
  simp [withdrawAndFinish]
@[simp] theorem withdrawAndFinish_bus (s : State) (t : Tag) (r : SlotRecord) (e : OutRequest) : (s.withdrawAndFinish t r e).bus = s.bus := by
  simp [withdrawAndFinish]
@[simp] theorem withdrawAndFinish_port (s : State) (t : Tag) (r : SlotRecord) (e : OutRequest) : (s.withdrawAndFinish t r e).port = s.port := by
  simp [withdrawAndFinish]
@[simp] theorem withdrawAndFinish_pending (s : State) (t : Tag) (r : SlotRecord) (e : OutRequest) : (s.withdrawAndFinish t r e).pending = s.pending := by
  simp [withdrawAndFinish]

@[simp] theorem acquireNotTaken_ctl (s : State) (t : Tag) : (s.acquireNotTaken t).ctl = s.ctl := by
  unfold acquireNotTaken; repeat' split
  all_goals simp
@[simp] theorem acquireNotTaken_roster (s : State) (t : Tag) : (s.acquireNotTaken t).roster = s.roster := by
  unfold acquireNotTaken; repeat' split
  all_goals simp
@[simp] theorem acquireNotTaken_home (s : State) (t : Tag) : (s.acquireNotTaken t).home = s.home := by
  unfold acquireNotTaken; repeat' split
  all_goals simp
@[simp] theorem acquireNotTaken_bus (s : State) (t : Tag) : (s.acquireNotTaken t).bus = s.bus := by
  unfold acquireNotTaken; repeat' split
  all_goals simp
@[simp] theorem acquireNotTaken_port (s : State) (t : Tag) : (s.acquireNotTaken t).port = s.port := by
  unfold acquireNotTaken; repeat' split
  all_goals simp
@[simp] theorem acquireNotTaken_pending (s : State) (t : Tag) : (s.acquireNotTaken t).pending = s.pending := by
  unfold acquireNotTaken; repeat' split
  all_goals simp

@[simp] theorem cancelSlot_ctl (s : State) (t : Tag) (cause : CancelCause) : (s.cancelSlot t cause).ctl = s.ctl := by
  unfold cancelSlot; repeat' split
  all_goals simp
@[simp] theorem cancelSlot_roster (s : State) (t : Tag) (cause : CancelCause) : (s.cancelSlot t cause).roster = s.roster := by
  unfold cancelSlot; repeat' split
  all_goals simp
@[simp] theorem cancelSlot_home (s : State) (t : Tag) (cause : CancelCause) : (s.cancelSlot t cause).home = s.home := by
  unfold cancelSlot; repeat' split
  all_goals simp
@[simp] theorem cancelSlot_bus (s : State) (t : Tag) (cause : CancelCause) : (s.cancelSlot t cause).bus = s.bus := by
  unfold cancelSlot; repeat' split
  all_goals simp
@[simp] theorem cancelSlot_port (s : State) (t : Tag) (cause : CancelCause) : (s.cancelSlot t cause).port = s.port := by
  unfold cancelSlot; repeat' split
  all_goals simp
@[simp] theorem cancelSlot_pending (s : State) (t : Tag) (cause : CancelCause) : (s.cancelSlot t cause).pending = s.pending := by
  unfold cancelSlot; repeat' split
  all_goals simp

@[simp] theorem openSlot_ctl (s : State) (t : Tag) (l : LockId) (m : LockMode) (w : WaitKind) (o : Origin) (h : Station) (timer : Option Nat) : (s.openSlot t l m w o h timer).ctl = s.ctl := by
  simp [openSlot]
@[simp] theorem openSlot_roster (s : State) (t : Tag) (l : LockId) (m : LockMode) (w : WaitKind) (o : Origin) (h : Station) (timer : Option Nat) : (s.openSlot t l m w o h timer).roster = s.roster := by
  simp [openSlot]
@[simp] theorem openSlot_home (s : State) (t : Tag) (l : LockId) (m : LockMode) (w : WaitKind) (o : Origin) (h : Station) (timer : Option Nat) : (s.openSlot t l m w o h timer).home = s.home := by
  simp [openSlot]
@[simp] theorem openSlot_bus (s : State) (t : Tag) (l : LockId) (m : LockMode) (w : WaitKind) (o : Origin) (h : Station) (timer : Option Nat) : (s.openSlot t l m w o h timer).bus = s.bus := by
  simp [openSlot]
@[simp] theorem openSlot_port (s : State) (t : Tag) (l : LockId) (m : LockMode) (w : WaitKind) (o : Origin) (h : Station) (timer : Option Nat) : (s.openSlot t l m w o h timer).port = s.port := by
  simp [openSlot]
@[simp] theorem openSlot_pending (s : State) (t : Tag) (l : LockId) (m : LockMode) (w : WaitKind) (o : Origin) (h : Station) (timer : Option Nat) : (s.openSlot t l m w o h timer).pending = s.pending := by
  simp [openSlot]

@[simp] theorem releaseSlot_ctl (s : State) (t : Tag) (r : SlotRecord) (u : Bool) (v : List Byte) : (s.releaseSlot t r u v).ctl = s.ctl := by
  simp [releaseSlot]
@[simp] theorem releaseSlot_roster (s : State) (t : Tag) (r : SlotRecord) (u : Bool) (v : List Byte) : (s.releaseSlot t r u v).roster = s.roster := by
  simp [releaseSlot]
@[simp] theorem releaseSlot_home (s : State) (t : Tag) (r : SlotRecord) (u : Bool) (v : List Byte) : (s.releaseSlot t r u v).home = s.home := by
  simp [releaseSlot]
@[simp] theorem releaseSlot_bus (s : State) (t : Tag) (r : SlotRecord) (u : Bool) (v : List Byte) : (s.releaseSlot t r u v).bus = s.bus := by
  simp [releaseSlot]
@[simp] theorem releaseSlot_port (s : State) (t : Tag) (r : SlotRecord) (u : Bool) (v : List Byte) : (s.releaseSlot t r u v).port = s.port := by
  simp [releaseSlot]
@[simp] theorem releaseSlot_pending (s : State) (t : Tag) (r : SlotRecord) (u : Bool) (v : List Byte) : (s.releaseSlot t r u v).pending = s.pending := by
  simp [releaseSlot]

@[simp] theorem loseSlots_ctl (s : State) (affected : Station → Bool) (why : Reason) : (s.loseSlots affected why).ctl = s.ctl := by
  unfold loseSlots; dsimp only; repeat' split
  all_goals simp
@[simp] theorem loseSlots_roster (s : State) (affected : Station → Bool) (why : Reason) : (s.loseSlots affected why).roster = s.roster := by
  unfold loseSlots; dsimp only; repeat' split
  all_goals simp
@[simp] theorem loseSlots_home (s : State) (affected : Station → Bool) (why : Reason) : (s.loseSlots affected why).home = s.home := by
  unfold loseSlots; dsimp only; repeat' split
  all_goals simp
@[simp] theorem loseSlots_dlv (s : State) (affected : Station → Bool) (why : Reason) : (s.loseSlots affected why).dlv = s.dlv := by
  unfold loseSlots; dsimp only; repeat' split
  all_goals simp
@[simp] theorem loseSlots_bus (s : State) (affected : Station → Bool) (why : Reason) : (s.loseSlots affected why).bus = s.bus := by
  unfold loseSlots; dsimp only; repeat' split
  all_goals simp
@[simp] theorem loseSlots_pending (s : State) (affected : Station → Bool) (why : Reason) : (s.loseSlots affected why).pending = s.pending := by
  unfold loseSlots; dsimp only; repeat' split
  all_goals simp

@[simp] theorem popRecord_ctl (s : State) : (s.popRecord).ctl = s.ctl := by
  unfold popRecord; dsimp only; repeat' split
  all_goals simp
@[simp] theorem popRecord_roster (s : State) : (s.popRecord).roster = s.roster := by
  unfold popRecord; dsimp only; repeat' split
  all_goals simp
@[simp] theorem popRecord_home (s : State) : (s.popRecord).home = s.home := by
  unfold popRecord; dsimp only; repeat' split
  all_goals simp
@[simp] theorem popRecord_dlv (s : State) : (s.popRecord).dlv = s.dlv := by
  unfold popRecord; dsimp only; repeat' split
  all_goals simp
@[simp] theorem popRecord_bus (s : State) : (s.popRecord).bus = s.bus := by
  unfold popRecord; dsimp only; repeat' split
  all_goals simp
@[simp] theorem popRecord_port (s : State) : (s.popRecord).port = s.port := by
  unfold popRecord; dsimp only; repeat' split
  all_goals simp
@[simp] theorem popRecord_pending (s : State) : (s.popRecord).pending = s.pending := by
  unfold popRecord; dsimp only; repeat' split
  all_goals simp

@[simp] theorem purgeDelivery_ctl (s : State) (p : Station) : (s.purgeDelivery p).ctl = s.ctl := by
  simp [purgeDelivery]
@[simp] theorem purgeDelivery_roster (s : State) (p : Station) : (s.purgeDelivery p).roster = s.roster := by
  simp [purgeDelivery]
@[simp] theorem purgeDelivery_home (s : State) (p : Station) : (s.purgeDelivery p).home = s.home := by
  simp [purgeDelivery]
@[simp] theorem purgeDelivery_req (s : State) (p : Station) : (s.purgeDelivery p).req = s.req := by
  simp [purgeDelivery]
@[simp] theorem purgeDelivery_port (s : State) (p : Station) : (s.purgeDelivery p).port = s.port := by
  simp [purgeDelivery]
@[simp] theorem purgeDelivery_pending (s : State) (p : Station) : (s.purgeDelivery p).pending = s.pending := by
  simp [purgeDelivery]

@[simp] theorem purgeRoster_ctl (s : State) (p : Station) (c : PurgeCause) : (s.purgeRoster p c).ctl = s.ctl := by
  simp [purgeRoster]
@[simp] theorem purgeRoster_home (s : State) (p : Station) (c : PurgeCause) : (s.purgeRoster p c).home = s.home := by
  simp [purgeRoster]
@[simp] theorem purgeRoster_req (s : State) (p : Station) (c : PurgeCause) : (s.purgeRoster p c).req = s.req := by
  simp [purgeRoster]
@[simp] theorem purgeRoster_dlv (s : State) (p : Station) (c : PurgeCause) : (s.purgeRoster p c).dlv = s.dlv := by
  simp [purgeRoster]
@[simp] theorem purgeRoster_bus (s : State) (p : Station) (c : PurgeCause) : (s.purgeRoster p c).bus = s.bus := by
  simp [purgeRoster]
@[simp] theorem purgeRoster_port (s : State) (p : Station) (c : PurgeCause) : (s.purgeRoster p c).port = s.port := by
  simp [purgeRoster]
@[simp] theorem purgeRoster_pending (s : State) (p : Station) (c : PurgeCause) : (s.purgeRoster p c).pending = s.pending := by
  simp [purgeRoster]

@[simp] theorem purgeHome_ctl (s : State) (p : Station) : (s.purgeHome p).ctl = s.ctl := by
  simp [purgeHome]
@[simp] theorem purgeHome_roster (s : State) (p : Station) : (s.purgeHome p).roster = s.roster := by
  simp [purgeHome]
@[simp] theorem purgeHome_req (s : State) (p : Station) : (s.purgeHome p).req = s.req := by
  simp [purgeHome]
@[simp] theorem purgeHome_dlv (s : State) (p : Station) : (s.purgeHome p).dlv = s.dlv := by
  simp [purgeHome]
@[simp] theorem purgeHome_bus (s : State) (p : Station) : (s.purgeHome p).bus = s.bus := by
  simp [purgeHome]
@[simp] theorem purgeHome_port (s : State) (p : Station) : (s.purgeHome p).port = s.port := by
  simp [purgeHome]
@[simp] theorem purgeHome_pending (s : State) (p : Station) : (s.purgeHome p).pending = s.pending := by
  simp [purgeHome]

@[simp] theorem purge_ctl (s : State) (p : Station) (c : PurgeCause) : (s.purge p c).ctl = s.ctl := by
  simp [purge]
@[simp] theorem purge_pending (s : State) (p : Station) (c : PurgeCause) : (s.purge p c).pending = s.pending := by
  simp [purge]

end Sys2Proof.Machine.State
end

