-- ==== Sys2Proof/Laws/Delivery.lean ====
section
/-! SUPPORT. The blocks that each operation of the life cycle, the bus access unit, the delivery unit and the home
controller leaves as they are: `<operation>_<block>`. -/

namespace Sys2Proof.Machine.State

@[simp] theorem startSucceeds_home (s : State) : (s.startSucceeds).home = s.home := by
  simp [startSucceeds]
@[simp] theorem startSucceeds_req (s : State) : (s.startSucceeds).req = s.req := by
  simp [startSucceeds]
@[simp] theorem startSucceeds_dlv (s : State) : (s.startSucceeds).dlv = s.dlv := by
  simp [startSucceeds]
@[simp] theorem startSucceeds_bus (s : State) : (s.startSucceeds).bus = s.bus := by
  simp [startSucceeds]
@[simp] theorem startSucceeds_pending (s : State) : (s.startSucceeds).pending = s.pending := by
  simp [startSucceeds]

@[simp] theorem submitStart_home (s : State) : (s.submitStart).home = s.home := by
  unfold submitStart; repeat' split
  all_goals simp
@[simp] theorem submitStart_req (s : State) : (s.submitStart).req = s.req := by
  unfold submitStart; repeat' split
  all_goals simp
@[simp] theorem submitStart_dlv (s : State) : (s.submitStart).dlv = s.dlv := by
  unfold submitStart; repeat' split
  all_goals simp
@[simp] theorem submitStart_bus (s : State) : (s.submitStart).bus = s.bus := by
  unfold submitStart; repeat' split
  all_goals simp
@[simp] theorem submitStart_pending (s : State) : (s.submitStart).pending = s.pending := by
  unfold submitStart; repeat' split
  all_goals simp

@[simp] theorem enterOnline_home (s : State) : (s.enterOnline).home = s.home := by
  simp [enterOnline]
@[simp] theorem enterOnline_req (s : State) : (s.enterOnline).req = s.req := by
  simp [enterOnline]
@[simp] theorem enterOnline_bus (s : State) : (s.enterOnline).bus = s.bus := by
  simp [enterOnline]
@[simp] theorem enterOnline_port (s : State) : (s.enterOnline).port = s.port := by
  simp [enterOnline]
@[simp] theorem enterOnline_pending (s : State) : (s.enterOnline).pending = s.pending := by
  simp [enterOnline]

@[simp] theorem ignoreAttempt_ctl (s : State) : (s.ignoreAttempt).ctl = s.ctl := by
  simp [ignoreAttempt]
@[simp] theorem ignoreAttempt_roster (s : State) : (s.ignoreAttempt).roster = s.roster := by
  simp [ignoreAttempt]
@[simp] theorem ignoreAttempt_home (s : State) : (s.ignoreAttempt).home = s.home := by
  simp [ignoreAttempt]
@[simp] theorem ignoreAttempt_req (s : State) : (s.ignoreAttempt).req = s.req := by
  simp [ignoreAttempt]
@[simp] theorem ignoreAttempt_dlv (s : State) : (s.ignoreAttempt).dlv = s.dlv := by
  simp [ignoreAttempt]
@[simp] theorem ignoreAttempt_port (s : State) : (s.ignoreAttempt).port = s.port := by
  simp [ignoreAttempt]
@[simp] theorem ignoreAttempt_pending (s : State) : (s.ignoreAttempt).pending = s.pending := by
  simp [ignoreAttempt]

@[simp] theorem leaveDelivery_ctl (s : State) : (s.leaveDelivery).ctl = s.ctl := by
  simp [leaveDelivery]
@[simp] theorem leaveDelivery_roster (s : State) : (s.leaveDelivery).roster = s.roster := by
  simp [leaveDelivery]
@[simp] theorem leaveDelivery_home (s : State) : (s.leaveDelivery).home = s.home := by
  simp [leaveDelivery]
@[simp] theorem leaveDelivery_req (s : State) : (s.leaveDelivery).req = s.req := by
  simp [leaveDelivery]
@[simp] theorem leaveDelivery_bus (s : State) : (s.leaveDelivery).bus = s.bus := by
  simp [leaveDelivery]
@[simp] theorem leaveDelivery_port (s : State) : (s.leaveDelivery).port = s.port := by
  simp [leaveDelivery]
@[simp] theorem leaveDelivery_pending (s : State) : (s.leaveDelivery).pending = s.pending := by
  simp [leaveDelivery]

@[simp] theorem enterLeaving_pending (s : State) : (s.enterLeaving).pending = s.pending := by
  simp [enterLeaving]

@[simp] theorem submitLeave_pending (s : State) : (s.submitLeave).pending = s.pending := by
  unfold submitLeave; repeat' split
  all_goals simp

@[simp] theorem endLeaving_home (s : State) : (s.endLeaving).home = s.home := by
  simp [endLeaving]
@[simp] theorem endLeaving_req (s : State) : (s.endLeaving).req = s.req := by
  simp [endLeaving]
@[simp] theorem endLeaving_port (s : State) : (s.endLeaving).port = s.port := by
  simp [endLeaving]
@[simp] theorem endLeaving_pending (s : State) : (s.endLeaving).pending = s.pending := by
  simp [endLeaving]

@[simp] theorem portResetValues_pending (s : State) : (s.portResetValues).pending = s.pending := by
  rfl

@[simp] theorem releasePortReset_roster (s : State) (x : Straps) : (s.releasePortReset x).roster = s.roster := by
  simp [releasePortReset]
@[simp] theorem releasePortReset_home (s : State) (x : Straps) : (s.releasePortReset x).home = s.home := by
  simp [releasePortReset]
@[simp] theorem releasePortReset_req (s : State) (x : Straps) : (s.releasePortReset x).req = s.req := by
  simp [releasePortReset]
@[simp] theorem releasePortReset_dlv (s : State) (x : Straps) : (s.releasePortReset x).dlv = s.dlv := by
  simp [releasePortReset]
@[simp] theorem releasePortReset_bus (s : State) (x : Straps) : (s.releasePortReset x).bus = s.bus := by
  simp [releasePortReset]
@[simp] theorem releasePortReset_port (s : State) (x : Straps) : (s.releasePortReset x).port = s.port := by
  simp [releasePortReset]
@[simp] theorem releasePortReset_pending (s : State) (x : Straps) : (s.releasePortReset x).pending = s.pending := by
  simp [releasePortReset]

@[simp] theorem beginAttempt_ctl (s : State) (k : AttemptKind) (f : Frame) : (s.beginAttempt k f).ctl = s.ctl := by
  simp [beginAttempt]
@[simp] theorem beginAttempt_roster (s : State) (k : AttemptKind) (f : Frame) : (s.beginAttempt k f).roster = s.roster := by
  simp [beginAttempt]
@[simp] theorem beginAttempt_home (s : State) (k : AttemptKind) (f : Frame) : (s.beginAttempt k f).home = s.home := by
  simp [beginAttempt]
@[simp] theorem beginAttempt_req (s : State) (k : AttemptKind) (f : Frame) : (s.beginAttempt k f).req = s.req := by
  simp [beginAttempt]
@[simp] theorem beginAttempt_dlv (s : State) (k : AttemptKind) (f : Frame) : (s.beginAttempt k f).dlv = s.dlv := by
  simp [beginAttempt]
@[simp] theorem beginAttempt_port (s : State) (k : AttemptKind) (f : Frame) : (s.beginAttempt k f).port = s.port := by
  simp [beginAttempt]
@[simp] theorem beginAttempt_pending (s : State) (k : AttemptKind) (f : Frame) : (s.beginAttempt k f).pending = s.pending := by
  simp [beginAttempt]

@[simp] theorem attemptAddressed_ctl (s : State) (q : OutQueue) (d : Station) (b : FrameBody) : (s.attemptAddressed q d b).ctl = s.ctl := by
  simp [attemptAddressed]
@[simp] theorem attemptAddressed_roster (s : State) (q : OutQueue) (d : Station) (b : FrameBody) : (s.attemptAddressed q d b).roster = s.roster := by
  simp [attemptAddressed]
@[simp] theorem attemptAddressed_home (s : State) (q : OutQueue) (d : Station) (b : FrameBody) : (s.attemptAddressed q d b).home = s.home := by
  simp [attemptAddressed]
@[simp] theorem attemptAddressed_req (s : State) (q : OutQueue) (d : Station) (b : FrameBody) : (s.attemptAddressed q d b).req = s.req := by
  simp [attemptAddressed]
@[simp] theorem attemptAddressed_port (s : State) (q : OutQueue) (d : Station) (b : FrameBody) : (s.attemptAddressed q d b).port = s.port := by
  simp [attemptAddressed]
@[simp] theorem attemptAddressed_pending (s : State) (q : OutQueue) (d : Station) (b : FrameBody) : (s.attemptAddressed q d b).pending = s.pending := by
  simp [attemptAddressed]

@[simp] theorem chooseAndSend_ctl (s : State) : (s.chooseAndSend).ctl = s.ctl := by
  unfold chooseAndSend; repeat' split
  all_goals simp
@[simp] theorem chooseAndSend_roster (s : State) : (s.chooseAndSend).roster = s.roster := by
  unfold chooseAndSend; repeat' split
  all_goals simp
@[simp] theorem chooseAndSend_home (s : State) : (s.chooseAndSend).home = s.home := by
  unfold chooseAndSend; repeat' split
  all_goals simp
@[simp] theorem chooseAndSend_req (s : State) : (s.chooseAndSend).req = s.req := by
  unfold chooseAndSend; repeat' split
  all_goals simp
@[simp] theorem chooseAndSend_port (s : State) : (s.chooseAndSend).port = s.port := by
  unfold chooseAndSend; repeat' split
  all_goals simp
@[simp] theorem chooseAndSend_pending (s : State) : (s.chooseAndSend).pending = s.pending := by
  unfold chooseAndSend; repeat' split
  all_goals simp

@[simp] theorem atOwnPosition_ctl (s : State) : (s.atOwnPosition).ctl = s.ctl := by
  simp [atOwnPosition]
@[simp] theorem atOwnPosition_roster (s : State) : (s.atOwnPosition).roster = s.roster := by
  simp [atOwnPosition]
@[simp] theorem atOwnPosition_home (s : State) : (s.atOwnPosition).home = s.home := by
  simp [atOwnPosition]
@[simp] theorem atOwnPosition_req (s : State) : (s.atOwnPosition).req = s.req := by
  simp [atOwnPosition]
@[simp] theorem atOwnPosition_dlv (s : State) : (s.atOwnPosition).dlv = s.dlv := by
  simp [atOwnPosition]
@[simp] theorem atOwnPosition_port (s : State) : (s.atOwnPosition).port = s.port := by
  simp [atOwnPosition]
@[simp] theorem atOwnPosition_pending (s : State) : (s.atOwnPosition).pending = s.pending := by
  simp [atOwnPosition]

@[simp] theorem acceptStarted_ctl (s : State) (d : Station) (f : StartedFrame) : (s.acceptStarted d f).ctl = s.ctl := by
  unfold acceptStarted; dsimp only; repeat' split
  all_goals simp
@[simp] theorem acceptStarted_home (s : State) (d : Station) (f : StartedFrame) : (s.acceptStarted d f).home = s.home := by
  unfold acceptStarted; dsimp only; repeat' split
  all_goals simp
@[simp] theorem acceptStarted_req (s : State) (d : Station) (f : StartedFrame) : (s.acceptStarted d f).req = s.req := by
  unfold acceptStarted; dsimp only; repeat' split
  all_goals simp
@[simp] theorem acceptStarted_bus (s : State) (d : Station) (f : StartedFrame) : (s.acceptStarted d f).bus = s.bus := by
  unfold acceptStarted; dsimp only; repeat' split
  all_goals simp
@[simp] theorem acceptStarted_port (s : State) (d : Station) (f : StartedFrame) : (s.acceptStarted d f).port = s.port := by
  unfold acceptStarted; dsimp only; repeat' split
  all_goals simp
@[simp] theorem acceptStarted_pending (s : State) (d : Station) (f : StartedFrame) : (s.acceptStarted d f).pending = s.pending := by
  unfold acceptStarted; dsimp only; repeat' split
  all_goals simp

@[simp] theorem frameAccepted_ctl (s : State) (d : Station) (q : OutQueue) (f : StartedFrame) : (s.frameAccepted d q f).ctl = s.ctl := by
  unfold frameAccepted; dsimp only; repeat' split
  all_goals simp
@[simp] theorem frameAccepted_home (s : State) (d : Station) (q : OutQueue) (f : StartedFrame) : (s.frameAccepted d q f).home = s.home := by
  unfold frameAccepted; dsimp only; repeat' split
  all_goals simp
@[simp] theorem frameAccepted_bus (s : State) (d : Station) (q : OutQueue) (f : StartedFrame) : (s.frameAccepted d q f).bus = s.bus := by
  unfold frameAccepted; dsimp only; repeat' split
  all_goals simp
@[simp] theorem frameAccepted_port (s : State) (d : Station) (q : OutQueue) (f : StartedFrame) : (s.frameAccepted d q f).port = s.port := by
  unfold frameAccepted; dsimp only; repeat' split
  all_goals simp
@[simp] theorem frameAccepted_pending (s : State) (d : Station) (q : OutQueue) (f : StartedFrame) : (s.frameAccepted d q f).pending = s.pending := by
  unfold frameAccepted; dsimp only; repeat' split
  all_goals simp

@[simp] theorem frameNotTaken_ctl (s : State) (d : Station) (q : OutQueue) (x : LastAnswer) : (s.frameNotTaken d q x).ctl = s.ctl := by
  unfold frameNotTaken; dsimp only; repeat' split
  all_goals simp
@[simp] theorem frameNotTaken_roster (s : State) (d : Station) (q : OutQueue) (x : LastAnswer) : (s.frameNotTaken d q x).roster = s.roster := by
  unfold frameNotTaken; dsimp only; repeat' split
  all_goals simp
@[simp] theorem frameNotTaken_home (s : State) (d : Station) (q : OutQueue) (x : LastAnswer) : (s.frameNotTaken d q x).home = s.home := by
  unfold frameNotTaken; dsimp only; repeat' split
  all_goals simp
@[simp] theorem frameNotTaken_bus (s : State) (d : Station) (q : OutQueue) (x : LastAnswer) : (s.frameNotTaken d q x).bus = s.bus := by
  unfold frameNotTaken; dsimp only; repeat' split
  all_goals simp
@[simp] theorem frameNotTaken_port (s : State) (d : Station) (q : OutQueue) (x : LastAnswer) : (s.frameNotTaken d q x).port = s.port := by
  unfold frameNotTaken; dsimp only; repeat' split
  all_goals simp
@[simp] theorem frameNotTaken_pending (s : State) (d : Station) (q : OutQueue) (x : LastAnswer) : (s.frameNotTaken d q x).pending = s.pending := by
  unfold frameNotTaken; dsimp only; repeat' split
  all_goals simp

@[simp] theorem frameUnanswered_ctl (s : State) (d : Station) : (s.frameUnanswered d).ctl = s.ctl := by
  unfold frameUnanswered; dsimp only; repeat' split
  all_goals simp
@[simp] theorem frameUnanswered_pending (s : State) (d : Station) : (s.frameUnanswered d).pending = s.pending := by
  unfold frameUnanswered; dsimp only; repeat' split
  all_goals simp

@[simp] theorem addressedOutcome_ctl (s : State) (d : Station) (q : OutQueue) (f : StartedFrame) (o : AttemptOutcome) : (s.addressedOutcome d q f o).ctl = s.ctl := by
  unfold addressedOutcome; repeat' split
  all_goals simp
@[simp] theorem addressedOutcome_pending (s : State) (d : Station) (q : OutQueue) (f : StartedFrame) (o : AttemptOutcome) : (s.addressedOutcome d q f o).pending = s.pending := by
  unfold addressedOutcome; repeat' split
  all_goals simp

@[simp] theorem applyOutcome_pending (s : State) (a : Attempt) : (s.applyOutcome a).pending = s.pending := by
  unfold applyOutcome; repeat' split
  all_goals simp

@[simp] theorem endAttempt_pending (s : State) : (s.endAttempt).pending = s.pending := by
  unfold endAttempt; repeat' split
  all_goals simp

@[simp] theorem closeWindow_pending (s : State) : (s.closeWindow).pending = s.pending := by
  simp [closeWindow]

@[simp] theorem frameMismatch_pending (s : State) (a : Attempt) (bit : Nat) : (s.frameMismatch a bit).pending = s.pending := by
  unfold frameMismatch; dsimp only; split
  all_goals simp

@[simp] theorem ackMismatch_ctl (s : State) (bit : Nat) : (s.ackMismatch bit).ctl = s.ctl := by
  unfold ackMismatch; repeat' split
  all_goals simp
@[simp] theorem ackMismatch_roster (s : State) (bit : Nat) : (s.ackMismatch bit).roster = s.roster := by
  unfold ackMismatch; repeat' split
  all_goals simp
@[simp] theorem ackMismatch_home (s : State) (bit : Nat) : (s.ackMismatch bit).home = s.home := by
  unfold ackMismatch; repeat' split
  all_goals simp
@[simp] theorem ackMismatch_req (s : State) (bit : Nat) : (s.ackMismatch bit).req = s.req := by
  unfold ackMismatch; repeat' split
  all_goals simp
@[simp] theorem ackMismatch_dlv (s : State) (bit : Nat) : (s.ackMismatch bit).dlv = s.dlv := by
  unfold ackMismatch; repeat' split
  all_goals simp
@[simp] theorem ackMismatch_port (s : State) (bit : Nat) : (s.ackMismatch bit).port = s.port := by
  unfold ackMismatch; repeat' split
  all_goals simp
@[simp] theorem ackMismatch_pending (s : State) (bit : Nat) : (s.ackMismatch bit).pending = s.pending := by
  unfold ackMismatch; repeat' split
  all_goals simp

@[simp] theorem readBack_pending (s : State) (bit : Nat) : (s.readBack bit).pending = s.pending := by
  unfold readBack; repeat' split
  all_goals simp

@[simp] theorem ownFrameEnds_ctl (s : State) : (s.ownFrameEnds).ctl = s.ctl := by
  unfold ownFrameEnds; repeat' split
  all_goals simp
@[simp] theorem ownFrameEnds_roster (s : State) : (s.ownFrameEnds).roster = s.roster := by
  unfold ownFrameEnds; repeat' split
  all_goals simp
@[simp] theorem ownFrameEnds_home (s : State) : (s.ownFrameEnds).home = s.home := by
  unfold ownFrameEnds; repeat' split
  all_goals simp
@[simp] theorem ownFrameEnds_req (s : State) : (s.ownFrameEnds).req = s.req := by
  unfold ownFrameEnds; repeat' split
  all_goals simp
@[simp] theorem ownFrameEnds_dlv (s : State) : (s.ownFrameEnds).dlv = s.dlv := by
  unfold ownFrameEnds; repeat' split
  all_goals simp
@[simp] theorem ownFrameEnds_port (s : State) : (s.ownFrameEnds).port = s.port := by
  unfold ownFrameEnds; repeat' split
  all_goals simp
@[simp] theorem ownFrameEnds_pending (s : State) : (s.ownFrameEnds).pending = s.pending := by
  unfold ownFrameEnds; repeat' split
  all_goals simp

@[simp] theorem routeResponse_ctl (s : State) (e : OutResponse) : (s.routeResponse e).ctl = s.ctl := by
  unfold routeResponse; repeat' split
  all_goals simp
@[simp] theorem routeResponse_roster (s : State) (e : OutResponse) : (s.routeResponse e).roster = s.roster := by
  unfold routeResponse; repeat' split
  all_goals simp
@[simp] theorem routeResponse_home (s : State) (e : OutResponse) : (s.routeResponse e).home = s.home := by
  unfold routeResponse; repeat' split
  all_goals simp
@[simp] theorem routeResponse_bus (s : State) (e : OutResponse) : (s.routeResponse e).bus = s.bus := by
  unfold routeResponse; repeat' split
  all_goals simp
@[simp] theorem routeResponse_pending (s : State) (e : OutResponse) : (s.routeResponse e).pending = s.pending := by
  unfold routeResponse; repeat' split
  all_goals simp

@[simp] theorem routeResponses_ctl (s : State) (es : List OutResponse) : (s.routeResponses es).ctl = s.ctl := by
  unfold routeResponses
  induction es generalizing s with
  | nil => rfl
  | cons e es ih => simp [ih]
@[simp] theorem routeResponses_roster (s : State) (es : List OutResponse) : (s.routeResponses es).roster = s.roster := by
  unfold routeResponses
  induction es generalizing s with
  | nil => rfl
  | cons e es ih => simp [ih]
@[simp] theorem routeResponses_home (s : State) (es : List OutResponse) : (s.routeResponses es).home = s.home := by
  unfold routeResponses
  induction es generalizing s with
  | nil => rfl
  | cons e es ih => simp [ih]
@[simp] theorem routeResponses_bus (s : State) (es : List OutResponse) : (s.routeResponses es).bus = s.bus := by
  unfold routeResponses
  induction es generalizing s with
  | nil => rfl
  | cons e es ih => simp [ih]
@[simp] theorem routeResponses_pending (s : State) (es : List OutResponse) : (s.routeResponses es).pending = s.pending := by
  unfold routeResponses
  induction es generalizing s with
  | nil => rfl
  | cons e es ih => simp [ih]

@[simp] theorem carryOut_ctl (s : State) (inbound : List InboundRequest) (x : HomeStep) : (s.carryOut inbound x).ctl = s.ctl := by
  simp [carryOut]
@[simp] theorem carryOut_roster (s : State) (inbound : List InboundRequest) (x : HomeStep) : (s.carryOut inbound x).roster = s.roster := by
  simp [carryOut]
@[simp] theorem carryOut_bus (s : State) (inbound : List InboundRequest) (x : HomeStep) : (s.carryOut inbound x).bus = s.bus := by
  simp [carryOut]
@[simp] theorem carryOut_pending (s : State) (inbound : List InboundRequest) (x : HomeStep) : (s.carryOut inbound x).pending = s.pending := by
  simp [carryOut]

@[simp] theorem serveAcquire_ctl (s : State) : (s.serveAcquire).ctl = s.ctl := by
  unfold serveAcquire; repeat' split
  all_goals simp
@[simp] theorem serveAcquire_roster (s : State) : (s.serveAcquire).roster = s.roster := by
  unfold serveAcquire; repeat' split
  all_goals simp
@[simp] theorem serveAcquire_bus (s : State) : (s.serveAcquire).bus = s.bus := by
  unfold serveAcquire; repeat' split
  all_goals simp
@[simp] theorem serveAcquire_pending (s : State) : (s.serveAcquire).pending = s.pending := by
  unfold serveAcquire; repeat' split
  all_goals simp

@[simp] theorem serveRelease_ctl (s : State) : (s.serveRelease).ctl = s.ctl := by
  unfold serveRelease; repeat' split
  all_goals simp
@[simp] theorem serveRelease_roster (s : State) : (s.serveRelease).roster = s.roster := by
  unfold serveRelease; repeat' split
  all_goals simp
@[simp] theorem serveRelease_bus (s : State) : (s.serveRelease).bus = s.bus := by
  unfold serveRelease; repeat' split
  all_goals simp
@[simp] theorem serveRelease_pending (s : State) : (s.serveRelease).pending = s.pending := by
  unfold serveRelease; repeat' split
  all_goals simp

@[simp] theorem serveCancel_ctl (s : State) : (s.serveCancel).ctl = s.ctl := by
  unfold serveCancel; repeat' split
  all_goals simp
@[simp] theorem serveCancel_roster (s : State) : (s.serveCancel).roster = s.roster := by
  unfold serveCancel; repeat' split
  all_goals simp
@[simp] theorem serveCancel_bus (s : State) : (s.serveCancel).bus = s.bus := by
  unfold serveCancel; repeat' split
  all_goals simp
@[simp] theorem serveCancel_pending (s : State) : (s.serveCancel).pending = s.pending := by
  unfold serveCancel; repeat' split
  all_goals simp

@[simp] theorem advanceWalk_ctl (s : State) (w : Walk) (l : LockId) : (s.advanceWalk w l).ctl = s.ctl := by
  simp [advanceWalk]
@[simp] theorem advanceWalk_roster (s : State) (w : Walk) (l : LockId) : (s.advanceWalk w l).roster = s.roster := by
  simp [advanceWalk]
@[simp] theorem advanceWalk_req (s : State) (w : Walk) (l : LockId) : (s.advanceWalk w l).req = s.req := by
  simp [advanceWalk]
@[simp] theorem advanceWalk_dlv (s : State) (w : Walk) (l : LockId) : (s.advanceWalk w l).dlv = s.dlv := by
  simp [advanceWalk]
@[simp] theorem advanceWalk_bus (s : State) (w : Walk) (l : LockId) : (s.advanceWalk w l).bus = s.bus := by
  simp [advanceWalk]
@[simp] theorem advanceWalk_port (s : State) (w : Walk) (l : LockId) : (s.advanceWalk w l).port = s.port := by
  simp [advanceWalk]
@[simp] theorem advanceWalk_pending (s : State) (w : Walk) (l : LockId) : (s.advanceWalk w l).pending = s.pending := by
  simp [advanceWalk]

@[simp] theorem stepWalk_ctl (s : State) : (s.stepWalk).ctl = s.ctl := by
  unfold stepWalk; repeat' split
  all_goals simp
@[simp] theorem stepWalk_roster (s : State) : (s.stepWalk).roster = s.roster := by
  unfold stepWalk; repeat' split
  all_goals simp
@[simp] theorem stepWalk_bus (s : State) : (s.stepWalk).bus = s.bus := by
  unfold stepWalk; repeat' split
  all_goals simp
@[simp] theorem stepWalk_pending (s : State) : (s.stepWalk).pending = s.pending := by
  unfold stepWalk; repeat' split
  all_goals simp

@[simp] theorem moveLoopback_ctl (s : State) : (s.moveLoopback).ctl = s.ctl := by
  unfold moveLoopback; repeat' split
  all_goals simp
@[simp] theorem moveLoopback_roster (s : State) : (s.moveLoopback).roster = s.roster := by
  unfold moveLoopback; repeat' split
  all_goals simp
@[simp] theorem moveLoopback_bus (s : State) : (s.moveLoopback).bus = s.bus := by
  unfold moveLoopback; repeat' split
  all_goals simp
@[simp] theorem moveLoopback_port (s : State) : (s.moveLoopback).port = s.port := by
  unfold moveLoopback; repeat' split
  all_goals simp
@[simp] theorem moveLoopback_pending (s : State) : (s.moveLoopback).pending = s.pending := by
  unfold moveLoopback; repeat' split
  all_goals simp

end Sys2Proof.Machine.State
end

