-- ==== Sys2Proof/Laws/HomeMap.lean ====
section
/-! SUPPORT. What the map checks, the lookup and the digest of the home map say about the range records (R3, R4, R8). -/

namespace Sys2Proof.Machine

/-- Two ordered ranges are disjoint exactly when no number lies in both. -/
theorem RangeRecord.disjoint_iff (a b : RangeRecord) (ha : a.first.toNat ≤ a.last.toNat)
    (hb : b.first.toNat ≤ b.last.toNat) :
    a.disjoint b = true ↔ ∀ n : Nat, ¬ ((a.first.toNat ≤ n ∧ n ≤ a.last.toNat) ∧
      (b.first.toNat ≤ n ∧ n ≤ b.last.toNat)) := by
  simp only [RangeRecord.disjoint, Bool.or_eq_true, decide_eq_true_eq]
  constructor
  · intro h n
    omega
  · intro h
    have h1 := h a.first.toNat
    have h2 := h b.first.toNat
    omega

/-- A list of ranges passes the pairwise check exactly when its members are pairwise disjoint. -/
theorem rangesDisjoint_iff (l : List RangeRecord) :
    rangesDisjoint l = true ↔ l.Pairwise (fun a b => a.disjoint b = true) := by
  induction l with
  | nil => simp [rangesDisjoint]
  | cons r rs ih => simp [rangesDisjoint, ih]

namespace ConfigBlock

/-- The selected records by their place. -/
theorem getElem?_selected (c : ConfigBlock) (k : Fin 8) (h : c.selects k) :
    c.selected[k.val]? = some (c.ranges.get k) := by
  unfold selected
  rw [List.getElem?_take_of_lt h]
  simp [Vector.get]

/-- The number of selected records. -/
theorem length_selected (c : ConfigBlock) (h : c.rangeCount.toNat ≤ 8) : c.selected.length = c.rangeCount.toNat := by
  simp [selected, h]

/-- The selected record at a place. -/
theorem getElem_selected (c : ConfigBlock) (h : c.rangeCount.toNat ≤ 8) (i : Nat) (hi : i < c.rangeCount.toNat) :
    c.selected[i]'(by rw [c.length_selected h]; exact hi) = c.ranges.get ⟨i, by omega⟩ := by
  have := c.getElem?_selected ⟨i, by omega⟩ hi
  rwa [List.getElem?_eq_getElem (by rw [c.length_selected h]; exact hi), Option.some_inj] at this

/-- A record is selected exactly when it stands at a selected place. -/
theorem mem_selected (c : ConfigBlock) (r : RangeRecord) :
    r ∈ c.selected ↔ ∃ k, c.selects k ∧ c.ranges.get k = r := by
  constructor
  · intro h
    obtain ⟨i, hi, e⟩ := List.getElem_of_mem h
    have hl : i < 8 := by
      have := hi
      simp [selected] at this
      omega
    have hc : i < c.rangeCount.toNat := by
      have := hi
      simp [selected] at this
      omega
    refine ⟨⟨i, hl⟩, hc, ?_⟩
    have := c.getElem?_selected ⟨i, hl⟩ hc
    rw [List.getElem?_eq_getElem hi, e] at this
    exact (Option.some.inj this).symm
  · rintro ⟨k, hk, rfl⟩
    exact List.mem_of_getElem? (c.getElem?_selected k hk)

/-- The map checks of START are R3's conditions on the selected records. -/
theorem mapOk_iff (c : ConfigBlock) : c.mapOk = true ↔ c.mapSound := by
  have own : ∀ r : RangeRecord, r.ok = true ↔
      r.first.toNat ≤ r.last.toNat ∧ r.last.toNat ≤ 4095 ∧ r.home.toNat ≤ 15 := by
    intro r
    rw [RangeRecord.ok, Bool.and_eq_true, Bool.and_eq_true, decide_eq_true_iff, decide_eq_true_iff,
      decide_eq_true_iff, and_assoc]
    rfl
  simp only [mapOk, mapSound, Bool.and_eq_true, decide_eq_true_eq, List.all_eq_true, own, rangesDisjoint_iff]
  constructor
  · rintro ⟨⟨⟨h1, h2⟩, h3⟩, h4⟩
    refine ⟨h1, h2, fun k hk => h3 _ ((c.mem_selected _).mpr ⟨k, hk, rfl⟩), ?_⟩
    have key : ∀ j k : Fin 8, c.selects j → c.selects k → j < k → ∀ n, ¬ (c.inRange j n ∧ c.inRange k n) := by
      intro j k hj hk hlt
      have hj' : j.val < c.selected.length := by rw [c.length_selected h2]; exact hj
      have hk' : k.val < c.selected.length := by rw [c.length_selected h2]; exact hk
      have d := List.pairwise_iff_getElem.mp h4 j.val k.val hj' hk' hlt
      rw [c.getElem_selected h2 _ hj, c.getElem_selected h2 _ hk] at d
      exact (RangeRecord.disjoint_iff _ _ (h3 _ ((c.mem_selected _).mpr ⟨j, hj, rfl⟩)).1
        (h3 _ ((c.mem_selected _).mpr ⟨k, hk, rfl⟩)).1).mp d
    intro j k hj hk hne n
    rcases Nat.lt_or_gt_of_ne (fun e => hne (Fin.ext e)) with h | h
    · exact key j k hj hk h n
    · exact fun x => key k j hk hj h n ⟨x.2, x.1⟩
  · rintro ⟨h1, h2, h3, h4⟩
    refine ⟨⟨⟨h1, h2⟩, ?_⟩, ?_⟩
    · intro r hr
      obtain ⟨k, hk, rfl⟩ := (c.mem_selected r).mp hr
      exact h3 k hk
    · rw [List.pairwise_iff_getElem]
      intro i j hi hj hlt
      rw [c.length_selected h2] at hi hj
      rw [c.getElem_selected h2 i hi, c.getElem_selected h2 j hj]
      exact (RangeRecord.disjoint_iff _ _ (h3 ⟨i, by omega⟩ hi).1 (h3 ⟨j, by omega⟩ hj).1).mpr
        (h4 ⟨i, by omega⟩ ⟨j, by omega⟩ hi hj (by simp [Fin.ext_iff]; omega))

/-- A selected record of a sound map, as a range: its three numbers are kept. -/
theorem toRange_fits (c : ConfigBlock) (h : c.mapSound) (k : Fin 8) (hk : c.selects k) :
    (c.ranges.get k).toRange.first.toNat = (c.ranges.get k).first.toNat ∧
    (c.ranges.get k).toRange.last.toNat = (c.ranges.get k).last.toNat ∧
    (c.ranges.get k).toRange.home.val = (c.ranges.get k).home.toNat := by
  obtain ⟨h1, h2, h3⟩ := h.2.2.1 k hk
  simp only [RangeRecord.toRange, stationOfNat, BitVec.toNat_setWidth, Fin.ofNat]
  refine ⟨?_, ?_, ?_⟩ <;> omega

/-- The lookup in the map START takes: the home of the one selected range the lock ID lies in (R4). -/
theorem homeOf_toMap_iff (c : ConfigBlock) (h : c.mapSound) (l : LockId) (p : Station) :
    homeOf c.toMap l = some p ↔
      ∃ k : Fin 8, c.selects k ∧ c.inRange k l.toNat ∧ (c.ranges.get k).home.toNat = p.val := by
  have cov : ∀ k, c.selects k → ((c.ranges.get k).toRange.covers l = true ↔ c.inRange k l.toNat) := by
    intro k hk
    obtain ⟨e1, e2, _⟩ := c.toRange_fits h k hk
    simp [MapRange.covers, e1, e2]
  have found : ∀ r, c.toMap.find? (·.covers l) = some r → ∃ k, c.selects k ∧ c.inRange k l.toNat ∧
      r = (c.ranges.get k).toRange := by
    intro r hr
    have hc := List.find?_some hr
    have hm := List.mem_of_find?_eq_some hr
    unfold toMap at hm
    rw [List.mem_map] at hm
    obtain ⟨x, hx, rfl⟩ := hm
    obtain ⟨k, hk, rfl⟩ := (c.mem_selected x).mp hx
    exact ⟨k, hk, (cov k hk).mp hc, rfl⟩
  unfold homeOf
  constructor
  · intro e
    rw [Option.map_eq_some_iff] at e
    obtain ⟨r, hr, rfl⟩ := e
    obtain ⟨k, hk, hin, rfl⟩ := found r hr
    exact ⟨k, hk, hin, (c.toRange_fits h k hk).2.2.symm⟩
  · rintro ⟨k, hk, hin, hp⟩
    cases e : c.toMap.find? (·.covers l) with
    | none =>
      rw [List.find?_eq_none] at e
      have := e (c.ranges.get k).toRange (List.mem_map_of_mem ((c.mem_selected _).mpr ⟨k, hk, rfl⟩))
      exact absurd ((cov k hk).mpr hin) (by simpa using this)
    | some r =>
      obtain ⟨j, hj, hin', rfl⟩ := found r e
      by_cases ejk : j = k
      · subst ejk
        simp only [Option.map_some, Option.some_inj]
        exact Fin.ext (by rw [(c.toRange_fits h j hj).2.2, hp])
      · exact absurd ⟨hin', hin⟩ (h.2.2.2 j k hj hk ejk _)

end ConfigBlock

/-! ## The digest's order -/

/-- Inserting keeps the members. -/
theorem mem_insertRange (r x : MapRange) (l : List MapRange) : x ∈ insertRange r l ↔ x = r ∨ x ∈ l := by
  induction l with
  | nil => simp [insertRange]
  | cons y ys ih =>
    unfold insertRange
    split
    · simp
    · simp [ih]
      tauto

/-- Sorting keeps the members. -/
theorem mem_sortRanges (x : MapRange) (l : List MapRange) : x ∈ sortRanges l ↔ x ∈ l := by
  induction l with
  | nil => simp [sortRanges]
  | cons r rs ih => simp [sortRanges, mem_insertRange, ih]

/-- Inserting into an ascending list leaves it ascending. -/
theorem insertRange_ascending (r : MapRange) (l : List MapRange)
    (h : l.Pairwise (fun a b => a.first.toNat < b.first.toNat)) (hne : ∀ x ∈ l, x.first ≠ r.first) :
    (insertRange r l).Pairwise (fun a b => a.first.toNat < b.first.toNat) := by
  induction l with
  | nil => simp [insertRange]
  | cons y ys ih =>
    rw [List.pairwise_cons] at h
    have hy : r.first.toNat ≠ y.first.toNat := fun e => hne y (by simp) (BitVec.eq_of_toNat_eq e.symm)
    unfold insertRange
    split
    · rename_i hle
      rw [List.pairwise_cons]
      refine ⟨?_, List.pairwise_cons.mpr h⟩
      intro x hx
      rcases List.mem_cons.mp hx with rfl | hx
      · omega
      · have := h.1 x hx
        omega
    · rename_i hle
      rw [List.pairwise_cons]
      refine ⟨?_, ih h.2 (fun x hx => hne x (by simp [hx]))⟩
      intro x hx
      rcases (mem_insertRange r x ys).mp hx with rfl | hx
      · omega
      · exact h.1 x hx

/-- The ranges of a list with different first lock IDs, sorted, ascend by first lock ID (R8). -/
theorem sortRanges_ascending (l : List MapRange) (h : l.Pairwise (fun a b => a.first ≠ b.first)) :
    (sortRanges l).Pairwise (fun a b => a.first.toNat < b.first.toNat) := by
  induction l with
  | nil => simp [sortRanges]
  | cons r rs ih =>
    rw [List.pairwise_cons] at h
    exact insertRange_ascending r _ (ih h.2)
      (fun x hx => (h.1 x ((mem_sortRanges x rs).mp hx)).symm)

/-- Two ascending lists with the same members are one list. -/
theorem ascending_unique (a b : List MapRange) (ha : a.Pairwise (fun x y => x.first.toNat < y.first.toNat))
    (hb : b.Pairwise (fun x y => x.first.toNat < y.first.toNat)) (h : ∀ x, x ∈ a ↔ x ∈ b) : a = b := by
  induction a generalizing b with
  | nil =>
    cases b with
    | nil => rfl
    | cons y ys => exact absurd ((h y).mpr (by simp)) (by simp)
  | cons x xs ih =>
    cases b with
    | nil => exact absurd ((h x).mp (by simp)) (by simp)
    | cons y ys =>
      rw [List.pairwise_cons] at ha hb
      have e : x = y := by
        have h1 := (h x).mp (by simp)
        have h2 := (h y).mpr (by simp)
        rcases List.mem_cons.mp h1 with e | h1
        · exact e
        rcases List.mem_cons.mp h2 with e | h2
        · exact e.symm
        have := ha.1 y h2
        have := hb.1 x h1
        omega
      subst e
      rw [ih ys ha.2 hb.2]
      intro z
      constructor
      · intro hz
        rcases List.mem_cons.mp ((h z).mp (by simp [hz])) with e | e
        · subst e
          have := ha.1 z hz
          omega
        · exact e
      · intro hz
        rcases List.mem_cons.mp ((h z).mpr (by simp [hz])) with e | e
        · subst e
          have := hb.1 z hz
          omega
        · exact e

/-- The ranges of a sound map have different first lock IDs. -/
theorem ConfigBlock.toMap_firsts (c : ConfigBlock) (h : c.mapSound) :
    c.toMap.Pairwise (fun a b => a.first ≠ b.first) := by
  unfold ConfigBlock.toMap
  rw [List.pairwise_map, List.pairwise_iff_getElem]
  intro i j hi hj hlt e
  rw [c.length_selected h.2.1] at hi hj
  have h8 := h.2.1
  rw [c.getElem_selected h8 i hi, c.getElem_selected h8 j hj] at e
  have e1 := congrArg BitVec.toNat e
  rw [(c.toRange_fits h ⟨i, by omega⟩ hi).1, (c.toRange_fits h ⟨j, by omega⟩ hj).1] at e1
  apply h.2.2.2 ⟨i, by omega⟩ ⟨j, by omega⟩ hi hj (by simp [Fin.ext_iff]; omega)
    (c.ranges.get ⟨i, by omega⟩).first.toNat
  refine ⟨⟨Nat.le_refl _, (h.2.2.1 _ hi).1⟩, ?_, ?_⟩
  · exact Nat.le_of_eq e1.symm
  · rw [e1]
    exact (h.2.2.1 _ hj).1

end Sys2Proof.Machine
end

