-- ==== Sys2Proof/Laws/Receive.lean ====
section
/-! SUPPORT. The blocks that each part of a receipt and each port operation leaves as they are: `<operation>_<block>`. -/

namespace Sys2Proof.Machine.State

@[simp] theorem dueAck_ctl (s : State) (p : Station) (f : Frame) (r : AckResult) : (s.dueAck p f r).ctl = s.ctl := by
  simp [dueAck]
@[simp] theorem dueAck_roster (s : State) (p : Station) (f : Frame) (r : AckResult) : (s.dueAck p f r).roster = s.roster := by
  simp [dueAck]
@[simp] theorem dueAck_home (s : State) (p : Station) (f : Frame) (r : AckResult) : (s.dueAck p f r).home = s.home := by
  simp [dueAck]
@[simp] theorem dueAck_req (s : State) (p : Station) (f : Frame) (r : AckResult) : (s.dueAck p f r).req = s.req := by
  simp [dueAck]
@[simp] theorem dueAck_dlv (s : State) (p : Station) (f : Frame) (r : AckResult) : (s.dueAck p f r).dlv = s.dlv := by
  simp [dueAck]
@[simp] theorem dueAck_port (s : State) (p : Station) (f : Frame) (r : AckResult) : (s.dueAck p f r).port = s.port := by
  simp [dueAck]
@[simp] theorem dueAck_pending (s : State) (p : Station) (f : Frame) (r : AckResult) : (s.dueAck p f r).pending = s.pending := by
  simp [dueAck]

@[simp] theorem dispatch_ctl (s : State) (p : Station) (b : FrameBody) : (s.dispatch p b).ctl = s.ctl := by
  unfold dispatch; repeat' split
  all_goals simp
@[simp] theorem dispatch_roster (s : State) (p : Station) (b : FrameBody) : (s.dispatch p b).roster = s.roster := by
  unfold dispatch; repeat' split
  all_goals simp
@[simp] theorem dispatch_bus (s : State) (p : Station) (b : FrameBody) : (s.dispatch p b).bus = s.bus := by
  unfold dispatch; repeat' split
  all_goals simp
@[simp] theorem dispatch_pending (s : State) (p : Station) (b : FrameBody) : (s.dispatch p b).pending = s.pending := by
  unfold dispatch; repeat' split
  all_goals simp

@[simp] theorem takeFrame_ctl (s : State) (p : Station) (f : Frame) : (s.takeFrame p f).ctl = s.ctl := by
  unfold takeFrame; dsimp only; split
  all_goals simp
@[simp] theorem takeFrame_pending (s : State) (p : Station) (f : Frame) : (s.takeFrame p f).pending = s.pending := by
  unfold takeFrame; dsimp only; split
  all_goals simp

@[simp] theorem admitFrame_ctl (s : State) (p : Station) (f : Frame) : (s.admitFrame p f).ctl = s.ctl := by
  unfold admitFrame; repeat' split
  all_goals simp
@[simp] theorem admitFrame_pending (s : State) (p : Station) (f : Frame) : (s.admitFrame p f).pending = s.pending := by
  unfold admitFrame; repeat' split
  all_goals simp

@[simp] theorem receiveChecks_ctl (s : State) (p : Station) (f : Frame) : (s.receiveChecks p f).ctl = s.ctl := by
  unfold receiveChecks; repeat' split
  all_goals simp
@[simp] theorem receiveChecks_pending (s : State) (p : Station) (f : Frame) : (s.receiveChecks p f).pending = s.pending := by
  unfold receiveChecks; repeat' split
  all_goals simp

@[simp] theorem answerWhileLeaving_ctl (s : State) (p : Station) (f : Frame) : (s.answerWhileLeaving p f).ctl = s.ctl := by
  unfold answerWhileLeaving; repeat' split
  all_goals simp
@[simp] theorem answerWhileLeaving_roster (s : State) (p : Station) (f : Frame) : (s.answerWhileLeaving p f).roster = s.roster := by
  unfold answerWhileLeaving; repeat' split
  all_goals simp
@[simp] theorem answerWhileLeaving_home (s : State) (p : Station) (f : Frame) : (s.answerWhileLeaving p f).home = s.home := by
  unfold answerWhileLeaving; repeat' split
  all_goals simp
@[simp] theorem answerWhileLeaving_req (s : State) (p : Station) (f : Frame) : (s.answerWhileLeaving p f).req = s.req := by
  unfold answerWhileLeaving; repeat' split
  all_goals simp
@[simp] theorem answerWhileLeaving_dlv (s : State) (p : Station) (f : Frame) : (s.answerWhileLeaving p f).dlv = s.dlv := by
  unfold answerWhileLeaving; repeat' split
  all_goals simp
@[simp] theorem answerWhileLeaving_port (s : State) (p : Station) (f : Frame) : (s.answerWhileLeaving p f).port = s.port := by
  unfold answerWhileLeaving; repeat' split
  all_goals simp
@[simp] theorem answerWhileLeaving_pending (s : State) (p : Station) (f : Frame) : (s.answerWhileLeaving p f).pending = s.pending := by
  unfold answerWhileLeaving; repeat' split
  all_goals simp

@[simp] theorem recordEpoch_ctl (s : State) (p : Station) (e : Word) : (s.recordEpoch p e).ctl = s.ctl := by
  simp [recordEpoch]
@[simp] theorem recordEpoch_home (s : State) (p : Station) (e : Word) : (s.recordEpoch p e).home = s.home := by
  simp [recordEpoch]
@[simp] theorem recordEpoch_req (s : State) (p : Station) (e : Word) : (s.recordEpoch p e).req = s.req := by
  simp [recordEpoch]
@[simp] theorem recordEpoch_dlv (s : State) (p : Station) (e : Word) : (s.recordEpoch p e).dlv = s.dlv := by
  simp [recordEpoch]
@[simp] theorem recordEpoch_bus (s : State) (p : Station) (e : Word) : (s.recordEpoch p e).bus = s.bus := by
  simp [recordEpoch]
@[simp] theorem recordEpoch_port (s : State) (p : Station) (e : Word) : (s.recordEpoch p e).port = s.port := by
  simp [recordEpoch]
@[simp] theorem recordEpoch_pending (s : State) (p : Station) (e : Word) : (s.recordEpoch p e).pending = s.pending := by
  simp [recordEpoch]

@[simp] theorem setPeerState_ctl (s : State) (p : Station) (x : PeerState) : (s.setPeerState p x).ctl = s.ctl := by
  simp [setPeerState]
@[simp] theorem setPeerState_home (s : State) (p : Station) (x : PeerState) : (s.setPeerState p x).home = s.home := by
  simp [setPeerState]
@[simp] theorem setPeerState_req (s : State) (p : Station) (x : PeerState) : (s.setPeerState p x).req = s.req := by
  simp [setPeerState]
@[simp] theorem setPeerState_dlv (s : State) (p : Station) (x : PeerState) : (s.setPeerState p x).dlv = s.dlv := by
  simp [setPeerState]
@[simp] theorem setPeerState_bus (s : State) (p : Station) (x : PeerState) : (s.setPeerState p x).bus = s.bus := by
  simp [setPeerState]
@[simp] theorem setPeerState_port (s : State) (p : Station) (x : PeerState) : (s.setPeerState p x).port = s.port := by
  simp [setPeerState]
@[simp] theorem setPeerState_pending (s : State) (p : Station) (x : PeerState) : (s.setPeerState p x).pending = s.pending := by
  simp [setPeerState]

@[simp] theorem presenceInJoining_ctl (s : State) (p : Station) (e d : Word) : (s.presenceInJoining p e d).ctl = s.ctl := by
  simp [presenceInJoining]
@[simp] theorem presenceInJoining_home (s : State) (p : Station) (e d : Word) : (s.presenceInJoining p e d).home = s.home := by
  simp [presenceInJoining]
@[simp] theorem presenceInJoining_req (s : State) (p : Station) (e d : Word) : (s.presenceInJoining p e d).req = s.req := by
  simp [presenceInJoining]
@[simp] theorem presenceInJoining_dlv (s : State) (p : Station) (e d : Word) : (s.presenceInJoining p e d).dlv = s.dlv := by
  simp [presenceInJoining]
@[simp] theorem presenceInJoining_bus (s : State) (p : Station) (e d : Word) : (s.presenceInJoining p e d).bus = s.bus := by
  simp [presenceInJoining]
@[simp] theorem presenceInJoining_port (s : State) (p : Station) (e d : Word) : (s.presenceInJoining p e d).port = s.port := by
  simp [presenceInJoining]
@[simp] theorem presenceInJoining_pending (s : State) (p : Station) (e d : Word) : (s.presenceInJoining p e d).pending = s.pending := by
  simp [presenceInJoining]

@[simp] theorem syncWaitNotice_ctl (s : State) (p : Station) (w : Word) : (s.syncWaitNotice p w).ctl = s.ctl := by
  unfold syncWaitNotice; repeat' split
  all_goals simp
@[simp] theorem syncWaitNotice_pending (s : State) (p : Station) (w : Word) : (s.syncWaitNotice p w).pending = s.pending := by
  unfold syncWaitNotice; repeat' split
  all_goals simp

@[simp] theorem presenceHeard_ctl (s : State) (p : Station) (fresh : Bool) (e d w : Word) : (s.presenceHeard p fresh e d w).ctl = s.ctl := by
  unfold presenceHeard; repeat' split
  all_goals simp
@[simp] theorem presenceHeard_pending (s : State) (p : Station) (fresh : Bool) (e d w : Word) : (s.presenceHeard p fresh e d w).pending = s.pending := by
  unfold presenceHeard; repeat' split
  all_goals simp

@[simp] theorem leaveHeard_ctl (s : State) (p : Station) : (s.leaveHeard p).ctl = s.ctl := by
  unfold leaveHeard; repeat' split
  all_goals simp
@[simp] theorem leaveHeard_pending (s : State) (p : Station) : (s.leaveHeard p).pending = s.pending := by
  unfold leaveHeard; repeat' split
  all_goals simp

@[simp] theorem ackReceived_ctl (s : State) (f : Frame) (n : Byte) (r : AckResult) : (s.ackReceived f n r).ctl = s.ctl := by
  unfold ackReceived; repeat' split
  all_goals simp
@[simp] theorem ackReceived_roster (s : State) (f : Frame) (n : Byte) (r : AckResult) : (s.ackReceived f n r).roster = s.roster := by
  unfold ackReceived; repeat' split
  all_goals simp
@[simp] theorem ackReceived_home (s : State) (f : Frame) (n : Byte) (r : AckResult) : (s.ackReceived f n r).home = s.home := by
  unfold ackReceived; repeat' split
  all_goals simp
@[simp] theorem ackReceived_req (s : State) (f : Frame) (n : Byte) (r : AckResult) : (s.ackReceived f n r).req = s.req := by
  unfold ackReceived; repeat' split
  all_goals simp
@[simp] theorem ackReceived_dlv (s : State) (f : Frame) (n : Byte) (r : AckResult) : (s.ackReceived f n r).dlv = s.dlv := by
  unfold ackReceived; repeat' split
  all_goals simp
@[simp] theorem ackReceived_port (s : State) (f : Frame) (n : Byte) (r : AckResult) : (s.ackReceived f n r).port = s.port := by
  unfold ackReceived; repeat' split
  all_goals simp
@[simp] theorem ackReceived_pending (s : State) (f : Frame) (n : Byte) (r : AckResult) : (s.ackReceived f n r).pending = s.pending := by
  unfold ackReceived; repeat' split
  all_goals simp

@[simp] theorem restartSilence_ctl (s : State) (p : Station) : (s.restartSilence p).ctl = s.ctl := by
  unfold restartSilence; repeat' split
  all_goals simp
@[simp] theorem restartSilence_home (s : State) (p : Station) : (s.restartSilence p).home = s.home := by
  unfold restartSilence; repeat' split
  all_goals simp
@[simp] theorem restartSilence_req (s : State) (p : Station) : (s.restartSilence p).req = s.req := by
  unfold restartSilence; repeat' split
  all_goals simp
@[simp] theorem restartSilence_dlv (s : State) (p : Station) : (s.restartSilence p).dlv = s.dlv := by
  unfold restartSilence; repeat' split
  all_goals simp
@[simp] theorem restartSilence_bus (s : State) (p : Station) : (s.restartSilence p).bus = s.bus := by
  unfold restartSilence; repeat' split
  all_goals simp
@[simp] theorem restartSilence_port (s : State) (p : Station) : (s.restartSilence p).port = s.port := by
  unfold restartSilence; repeat' split
  all_goals simp
@[simp] theorem restartSilence_pending (s : State) (p : Station) : (s.restartSilence p).pending = s.pending := by
  unfold restartSilence; repeat' split
  all_goals simp

@[simp] theorem handOn_ctl (s : State) (f : Frame) : (s.handOn f).ctl = s.ctl := by
  unfold handOn; dsimp only; repeat' split
  all_goals simp
@[simp] theorem handOn_pending (s : State) (f : Frame) : (s.handOn f).pending = s.pending := by
  unfold handOn; dsimp only; repeat' split
  all_goals simp

@[simp] theorem fromSource_pending (s : State) (f : Frame) : (s.fromSource f).pending = s.pending := by
  unfold fromSource; repeat' split
  all_goals simp

@[simp] theorem arbitratedEnds_ctl (s : State) (f : Frame) : (s.arbitratedEnds f).ctl = s.ctl := by
  simp [arbitratedEnds]
@[simp] theorem arbitratedEnds_roster (s : State) (f : Frame) : (s.arbitratedEnds f).roster = s.roster := by
  simp [arbitratedEnds]
@[simp] theorem arbitratedEnds_home (s : State) (f : Frame) : (s.arbitratedEnds f).home = s.home := by
  simp [arbitratedEnds]
@[simp] theorem arbitratedEnds_req (s : State) (f : Frame) : (s.arbitratedEnds f).req = s.req := by
  simp [arbitratedEnds]
@[simp] theorem arbitratedEnds_dlv (s : State) (f : Frame) : (s.arbitratedEnds f).dlv = s.dlv := by
  simp [arbitratedEnds]
@[simp] theorem arbitratedEnds_port (s : State) (f : Frame) : (s.arbitratedEnds f).port = s.port := by
  simp [arbitratedEnds]
@[simp] theorem arbitratedEnds_pending (s : State) (f : Frame) : (s.arbitratedEnds f).pending = s.pending := by
  simp [arbitratedEnds]

@[simp] theorem validFrame_pending (s : State) (f : Frame) : (s.validFrame f).pending = s.pending := by
  unfold validFrame; dsimp only; repeat' split
  all_goals simp

@[simp] theorem malformed_ctl (s : State) (w : Bool) : (s.malformed w).ctl = s.ctl := by
  unfold malformed; repeat' split
  all_goals simp
@[simp] theorem malformed_roster (s : State) (w : Bool) : (s.malformed w).roster = s.roster := by
  unfold malformed; repeat' split
  all_goals simp
@[simp] theorem malformed_home (s : State) (w : Bool) : (s.malformed w).home = s.home := by
  unfold malformed; repeat' split
  all_goals simp
@[simp] theorem malformed_req (s : State) (w : Bool) : (s.malformed w).req = s.req := by
  unfold malformed; repeat' split
  all_goals simp
@[simp] theorem malformed_dlv (s : State) (w : Bool) : (s.malformed w).dlv = s.dlv := by
  unfold malformed; repeat' split
  all_goals simp
@[simp] theorem malformed_port (s : State) (w : Bool) : (s.malformed w).port = s.port := by
  unfold malformed; repeat' split
  all_goals simp
@[simp] theorem malformed_pending (s : State) (w : Bool) : (s.malformed w).pending = s.pending := by
  unfold malformed; repeat' split
  all_goals simp

@[simp] theorem receive_pending (s : State) (rx : Reception) : (s.receive rx).pending = s.pending := by
  unfold receive; dsimp only; repeat' split
  all_goals simp

@[simp] theorem submitAcquire_ctl (s : State) : (s.submitAcquire).ctl = s.ctl := by
  unfold submitAcquire; repeat' split
  all_goals simp
@[simp] theorem submitAcquire_roster (s : State) : (s.submitAcquire).roster = s.roster := by
  unfold submitAcquire; repeat' split
  all_goals simp
@[simp] theorem submitAcquire_home (s : State) : (s.submitAcquire).home = s.home := by
  unfold submitAcquire; repeat' split
  all_goals simp
@[simp] theorem submitAcquire_bus (s : State) : (s.submitAcquire).bus = s.bus := by
  unfold submitAcquire; repeat' split
  all_goals simp
@[simp] theorem submitAcquire_pending (s : State) : (s.submitAcquire).pending = s.pending := by
  unfold submitAcquire; repeat' split
  all_goals simp

@[simp] theorem submitRelease_ctl (s : State) : (s.submitRelease).ctl = s.ctl := by
  unfold submitRelease; repeat' split
  all_goals simp
@[simp] theorem submitRelease_roster (s : State) : (s.submitRelease).roster = s.roster := by
  unfold submitRelease; repeat' split
  all_goals simp
@[simp] theorem submitRelease_home (s : State) : (s.submitRelease).home = s.home := by
  unfold submitRelease; repeat' split
  all_goals simp
@[simp] theorem submitRelease_bus (s : State) : (s.submitRelease).bus = s.bus := by
  unfold submitRelease; repeat' split
  all_goals simp
@[simp] theorem submitRelease_pending (s : State) : (s.submitRelease).pending = s.pending := by
  unfold submitRelease; repeat' split
  all_goals simp

@[simp] theorem submitCancel_ctl (s : State) : (s.submitCancel).ctl = s.ctl := by
  unfold submitCancel; repeat' split
  all_goals simp
@[simp] theorem submitCancel_roster (s : State) : (s.submitCancel).roster = s.roster := by
  unfold submitCancel; repeat' split
  all_goals simp
@[simp] theorem submitCancel_home (s : State) : (s.submitCancel).home = s.home := by
  unfold submitCancel; repeat' split
  all_goals simp
@[simp] theorem submitCancel_bus (s : State) : (s.submitCancel).bus = s.bus := by
  unfold submitCancel; repeat' split
  all_goals simp
@[simp] theorem submitCancel_pending (s : State) : (s.submitCancel).pending = s.pending := by
  unfold submitCancel; repeat' split
  all_goals simp

@[simp] theorem submit_pending (s : State) (v : Word) : (s.submit v).pending = s.pending := by
  unfold submit; repeat' split
  all_goals simp

@[simp] theorem refuseRead_ctl (s : State) (r : SubmissionResult) : (s.refuseRead r).ctl = s.ctl := by
  simp [refuseRead]
@[simp] theorem refuseRead_roster (s : State) (r : SubmissionResult) : (s.refuseRead r).roster = s.roster := by
  simp [refuseRead]
@[simp] theorem refuseRead_home (s : State) (r : SubmissionResult) : (s.refuseRead r).home = s.home := by
  simp [refuseRead]
@[simp] theorem refuseRead_req (s : State) (r : SubmissionResult) : (s.refuseRead r).req = s.req := by
  simp [refuseRead]
@[simp] theorem refuseRead_dlv (s : State) (r : SubmissionResult) : (s.refuseRead r).dlv = s.dlv := by
  simp [refuseRead]
@[simp] theorem refuseRead_bus (s : State) (r : SubmissionResult) : (s.refuseRead r).bus = s.bus := by
  simp [refuseRead]
@[simp] theorem refuseRead_pending (s : State) (r : SubmissionResult) : (s.refuseRead r).pending = s.pending := by
  simp [refuseRead]

@[simp] theorem stallRead_ctl (s : State) (t : Tag) : (s.stallRead t).ctl = s.ctl := by
  simp [stallRead]
@[simp] theorem stallRead_roster (s : State) (t : Tag) : (s.stallRead t).roster = s.roster := by
  simp [stallRead]
@[simp] theorem stallRead_home (s : State) (t : Tag) : (s.stallRead t).home = s.home := by
  simp [stallRead]
@[simp] theorem stallRead_req (s : State) (t : Tag) : (s.stallRead t).req = s.req := by
  simp [stallRead]
@[simp] theorem stallRead_dlv (s : State) (t : Tag) : (s.stallRead t).dlv = s.dlv := by
  simp [stallRead]
@[simp] theorem stallRead_bus (s : State) (t : Tag) : (s.stallRead t).bus = s.bus := by
  simp [stallRead]
@[simp] theorem stallRead_pending (s : State) (t : Tag) : (s.stallRead t).pending = s.pending := by
  simp [stallRead]

@[simp] theorem acquireByWindow_ctl (s : State) (m : LockMode) (l : LockId) : (s.acquireByWindow m l).ctl = s.ctl := by
  unfold acquireByWindow; repeat' split
  all_goals simp
@[simp] theorem acquireByWindow_roster (s : State) (m : LockMode) (l : LockId) : (s.acquireByWindow m l).roster = s.roster := by
  unfold acquireByWindow; repeat' split
  all_goals simp
@[simp] theorem acquireByWindow_home (s : State) (m : LockMode) (l : LockId) : (s.acquireByWindow m l).home = s.home := by
  unfold acquireByWindow; repeat' split
  all_goals simp
@[simp] theorem acquireByWindow_bus (s : State) (m : LockMode) (l : LockId) : (s.acquireByWindow m l).bus = s.bus := by
  unfold acquireByWindow; repeat' split
  all_goals simp
@[simp] theorem acquireByWindow_pending (s : State) (m : LockMode) (l : LockId) : (s.acquireByWindow m l).pending = s.pending := by
  unfold acquireByWindow; repeat' split
  all_goals simp

@[simp] theorem releaseByWindow_ctl (s : State) (l : LockId) : (s.releaseByWindow l).ctl = s.ctl := by
  unfold releaseByWindow; repeat' split
  all_goals simp
@[simp] theorem releaseByWindow_roster (s : State) (l : LockId) : (s.releaseByWindow l).roster = s.roster := by
  unfold releaseByWindow; repeat' split
  all_goals simp
@[simp] theorem releaseByWindow_home (s : State) (l : LockId) : (s.releaseByWindow l).home = s.home := by
  unfold releaseByWindow; repeat' split
  all_goals simp
@[simp] theorem releaseByWindow_bus (s : State) (l : LockId) : (s.releaseByWindow l).bus = s.bus := by
  unfold releaseByWindow; repeat' split
  all_goals simp
@[simp] theorem releaseByWindow_port (s : State) (l : LockId) : (s.releaseByWindow l).port = s.port := by
  unfold releaseByWindow; repeat' split
  all_goals simp
@[simp] theorem releaseByWindow_pending (s : State) (l : LockId) : (s.releaseByWindow l).pending = s.pending := by
  unfold releaseByWindow; repeat' split
  all_goals simp

@[simp] theorem windowLimit_ctl (s : State) : (s.windowLimit).ctl = s.ctl := by
  unfold windowLimit; repeat' split
  all_goals simp
@[simp] theorem windowLimit_roster (s : State) : (s.windowLimit).roster = s.roster := by
  unfold windowLimit; repeat' split
  all_goals simp
@[simp] theorem windowLimit_home (s : State) : (s.windowLimit).home = s.home := by
  unfold windowLimit; repeat' split
  all_goals simp
@[simp] theorem windowLimit_bus (s : State) : (s.windowLimit).bus = s.bus := by
  unfold windowLimit; repeat' split
  all_goals simp
@[simp] theorem windowLimit_pending (s : State) : (s.windowLimit).pending = s.pending := by
  unfold windowLimit; repeat' split
  all_goals simp

@[simp] theorem withdrawStrobe_ctl (s : State) : (s.withdrawStrobe).ctl = s.ctl := by
  unfold withdrawStrobe; repeat' split
  all_goals simp
@[simp] theorem withdrawStrobe_roster (s : State) : (s.withdrawStrobe).roster = s.roster := by
  unfold withdrawStrobe; repeat' split
  all_goals simp
@[simp] theorem withdrawStrobe_home (s : State) : (s.withdrawStrobe).home = s.home := by
  unfold withdrawStrobe; repeat' split
  all_goals simp
@[simp] theorem withdrawStrobe_bus (s : State) : (s.withdrawStrobe).bus = s.bus := by
  unfold withdrawStrobe; repeat' split
  all_goals simp
@[simp] theorem withdrawStrobe_pending (s : State) : (s.withdrawStrobe).pending = s.pending := by
  unfold withdrawStrobe; repeat' split
  all_goals simp

@[simp] theorem writeInterruptEnable_ctl (s : State) (v : Word) : (s.writeInterruptEnable v).ctl = s.ctl := by
  simp [writeInterruptEnable]
@[simp] theorem writeInterruptEnable_roster (s : State) (v : Word) : (s.writeInterruptEnable v).roster = s.roster := by
  simp [writeInterruptEnable]
@[simp] theorem writeInterruptEnable_home (s : State) (v : Word) : (s.writeInterruptEnable v).home = s.home := by
  simp [writeInterruptEnable]
@[simp] theorem writeInterruptEnable_req (s : State) (v : Word) : (s.writeInterruptEnable v).req = s.req := by
  simp [writeInterruptEnable]
@[simp] theorem writeInterruptEnable_dlv (s : State) (v : Word) : (s.writeInterruptEnable v).dlv = s.dlv := by
  simp [writeInterruptEnable]
@[simp] theorem writeInterruptEnable_bus (s : State) (v : Word) : (s.writeInterruptEnable v).bus = s.bus := by
  simp [writeInterruptEnable]
@[simp] theorem writeInterruptEnable_pending (s : State) (v : Word) : (s.writeInterruptEnable v).pending = s.pending := by
  simp [writeInterruptEnable]

@[simp] theorem writeConfig_roster (s : State) (f : ConfigBlock → ConfigBlock) : (s.writeConfig f).roster = s.roster := by
  unfold writeConfig; repeat' split
  all_goals simp
@[simp] theorem writeConfig_home (s : State) (f : ConfigBlock → ConfigBlock) : (s.writeConfig f).home = s.home := by
  unfold writeConfig; repeat' split
  all_goals simp
@[simp] theorem writeConfig_req (s : State) (f : ConfigBlock → ConfigBlock) : (s.writeConfig f).req = s.req := by
  unfold writeConfig; repeat' split
  all_goals simp
@[simp] theorem writeConfig_dlv (s : State) (f : ConfigBlock → ConfigBlock) : (s.writeConfig f).dlv = s.dlv := by
  unfold writeConfig; repeat' split
  all_goals simp
@[simp] theorem writeConfig_bus (s : State) (f : ConfigBlock → ConfigBlock) : (s.writeConfig f).bus = s.bus := by
  unfold writeConfig; repeat' split
  all_goals simp
@[simp] theorem writeConfig_port (s : State) (f : ConfigBlock → ConfigBlock) : (s.writeConfig f).port = s.port := by
  unfold writeConfig; repeat' split
  all_goals simp
@[simp] theorem writeConfig_pending (s : State) (f : ConfigBlock → ConfigBlock) : (s.writeConfig f).pending = s.pending := by
  unfold writeConfig; repeat' split
  all_goals simp

@[simp] theorem writeWord_pending (s : State) (a : PortAddr) (v : Word) : (s.writeWord a v).pending = s.pending := by
  simp only [writeWord, apply_ite State.pending, writeInterruptEnable_pending, writeConfig_pending,
    pending_withPort, submit_pending, popRecord_pending, releaseByWindow_pending, ite_self]

end Sys2Proof.Machine.State
end

