-- ==== Sys2Proof/Laws/Lookups.lean ====
section
/-! SUPPORT. What the lookups of the request controller find, and what a command taken by the port or by the
running station is: the lemmas a proof about one command begins with. -/

namespace Sys2Proof.Machine

/-- A running station carries the event out. -/
theorem running_of_working (s : State) (f : State → State) (h : s.ctl.resetAsserted = false) :
    running s f = f s := by
  simp [running, h]

/-- A station held in reset does not. -/
theorem running_of_reset (s : State) (f : State → State) (h : s.ctl.resetAsserted = true) :
    running s f = s := by
  simp [running, h]

/-- A free port takes the cycle, with the data lines released. -/
theorem portCycle_of_free (s : State) (f : State → State) (h : s.portFree) :
    portCycle s f = f s.cycleTaken := by
  have e : ¬ (s.ctl.resetAsserted = true ∨ s.port.window ≠ .idle) := by simp [h.1, h.2]
  unfold portCycle
  rw [if_neg e]
  rfl

/-- An event under its condition takes place. -/
theorem onlyIf_of_holds (c : Prop) [Decidable c] (s : State) (f : State → State) (h : c) :
    onlyIf c s f = f s := by
  simp [onlyIf, h]

/-- An event without its condition does not. -/
theorem onlyIf_of_fails (c : Prop) [Decidable c] (s : State) (f : State → State) (h : ¬ c) :
    onlyIf c s f = s := by
  simp [onlyIf, h]

namespace State

/-- No slot is found for a lock that no slot is for. -/
theorem slotForLock_of_unused (s : State) (l : LockId) (h : s.lockUnused l) : s.slotForLock l = none := by
  unfold slotForLock
  rw [List.find?_eq_none]
  intro u _
  have := h u
  unfold slotIs at this
  cases hu : s.slot u <;> simp_all

/-- A slot found for a lock is not FREE and is for that lock. -/
theorem slotForLock_spec (s : State) (l : LockId) (t : Tag) (h : s.slotForLock l = some t) :
    ∃ r, s.slot t = some r ∧ r.lock = l := by
  unfold slotForLock at h
  have h2 := List.find?_some h
  cases hs : s.slot t with
  | none => simp [hs] at h2
  | some r => exact ⟨r, rfl, by simpa [hs] using h2⟩

/-- Some slot is found for a lock when one is for it. -/
theorem slotForLock_isSome (s : State) (l : LockId) (t : Tag) (r : SlotRecord) (hr : s.slot t = some r)
    (hl : r.lock = l) : (s.slotForLock l).isSome = true := by
  unfold slotForLock
  rw [List.find?_isSome]
  exact ⟨t, by simp, by simp [hr, hl]⟩

/-- The only slot for a lock is the one found. -/
theorem slotForLock_of_only (s : State) (l : LockId) (t : Tag) (r : SlotRecord) (hr : s.slot t = some r)
    (hl : r.lock = l) (h : s.onlySlot t l) : s.slotForLock l = some t := by
  obtain ⟨u, hu⟩ := Option.isSome_iff_exists.1 (s.slotForLock_isSome l t r hr hl)
  obtain ⟨r', hr', hl'⟩ := s.slotForLock_spec l u hu
  by_cases e : u = t
  · rw [hu, e]
  · have := h u e
    simp [slotIs, hr', hl'] at this

/-- The lowest FREE slot is the one found. -/
theorem lowestFree_of_lowest (s : State) (t : Tag) (h : s.isLowestFree t) : s.lowestFree = some t := by
  have h1 : s.lowestFree.isSome = true := by
    unfold lowestFree
    rw [List.find?_isSome]
    exact ⟨t, by simp, by simp [h.1]⟩
  obtain ⟨u, hu⟩ := Option.isSome_iff_exists.1 h1
  rw [hu]
  have h2 := List.find?_some hu
  rcases lt_trichotomy u.val t.val with g | g | g
  · exact absurd (by simpa using h2) (h.2 u g)
  · rw [Fin.ext g]
  · exfalso
    obtain ⟨_, i, hi, hiu, hj⟩ := List.find?_eq_some_iff_getElem.1 hu
    have hi2 : i = u.val := by
      simp at hiu
      rw [← hiu]
    have := hj t.val (by omega)
    simp [h.1] at this

/-- No FREE slot, none found. -/
theorem lowestFree_of_full (s : State) (h : ∀ u : Tag, s.slot u ≠ none) : s.lowestFree = none := by
  unfold lowestFree
  rw [List.find?_eq_none]
  intro u _
  have := h u
  cases hu : s.slot u <;> simp_all

end State

end Sys2Proof.Machine
end

