-- ==== Sys2Proof/Laws/Losses.lean ====
section
/-! SUPPORT. What the loss of slots leaves in the request table and the completion queue (R69 to R71), what a
purge and the entry to LEAVING therefore leave, what the admission of an ACQUIRE answers (R174, R185), and what a
cancel makes of a PENDING slot (R63). -/

namespace Sys2Proof.Machine

namespace State

/-! ## A cycle taken -/

@[simp] theorem ctl_cycleTaken (s : State) : s.cycleTaken.ctl = s.ctl := rfl
@[simp] theorem roster_cycleTaken (s : State) : s.cycleTaken.roster = s.roster := rfl
@[simp] theorem home_cycleTaken (s : State) : s.cycleTaken.home = s.home := rfl
@[simp] theorem req_cycleTaken (s : State) : s.cycleTaken.req = s.req := rfl
@[simp] theorem dlv_cycleTaken (s : State) : s.cycleTaken.dlv = s.dlv := rfl
@[simp] theorem bus_cycleTaken (s : State) : s.cycleTaken.bus = s.bus := rfl
@[simp] theorem pending_cycleTaken (s : State) : s.cycleTaken.pending = s.pending := rfl
@[simp] theorem own_cycleTaken (s : State) : s.cycleTaken.own = s.own := rfl
@[simp] theorem staged_cycleTaken (s : State) (i : Fin 14) : s.cycleTaken.staged i = s.staged i := rfl
@[simp] theorem slot_cycleTaken (s : State) (t : Tag) : s.cycleTaken.slot t = s.slot t := rfl
@[simp] theorem peer_cycleTaken (s : State) (p : Station) : s.cycleTaken.peer p = s.peer p := rfl
@[simp] theorem sendRecord_cycleTaken (s : State) (p : Station) : s.cycleTaken.sendRecord p = s.sendRecord p := rfl
@[simp] theorem slotForLock_cycleTaken (s : State) (l : LockId) : s.cycleTaken.slotForLock l = s.slotForLock l := rfl

/-! ## The admission of an ACQUIRE -/

/-- An unmapped lock is refused first. -/
theorem admitAcquire_unmapped (s : State) (l : LockId) (h : homeOf s.ctl.activeMap l = none) :
    s.admitAcquire l = .error .unmapped := by
  simp [admitAcquire, h]

/-- A lock that has a slot is refused next. -/
theorem admitAcquire_duplicate (s : State) (l : LockId) (h : Station) (hh : homeOf s.ctl.activeMap l = some h)
    (hu : ¬ s.lockUnused l) : s.admitAcquire l = .error .duplicate := by
  have : (s.slotForLock l).isSome = true := by
    simp only [lockUnused, not_forall] at hu
    obtain ⟨u, hu⟩ := hu
    unfold slotIs at hu
    cases hs : s.slot u with
    | none => simp [hs] at hu
    | some r => exact slotForLock_isSome s l u r hs (by simpa [hs] using hu)
  unfold admitAcquire
  rw [hh]
  simp only [this, if_true]

/-- A home that is ABSENT or MISMATCHED is refused next. -/
theorem admitAcquire_unavailable (s : State) (l : LockId) (h : Station)
    (hh : homeOf s.ctl.activeMap l = some h) (hu : s.lockUnused l) (hn : ¬ s.homeUsable h) :
    s.admitAcquire l = .error .homeUnavailable := by
  unfold admitAcquire
  rw [hh]
  simp only
  rw [slotForLock_of_unused s l hu, if_neg (by simp), if_pos]
  unfold homeUsable at hn
  push Not at hn
  refine ⟨hn.1, ?_⟩
  by_cases c : (s.peer h).state = .absent
  · exact Or.inl c
  · exact Or.inr (hn.2 c)

/-- A usable home is not refused. -/
theorem not_unavailable_of_usable (s : State) (h : Station) (hus : s.homeUsable h) :
    ¬ (h ≠ s.own ∧ ((s.peer h).state = .absent ∨ (s.peer h).state = .mismatched)) := by
  rintro ⟨a, b⟩
  rcases hus with c | ⟨c, d⟩
  · exact a c
  · rcases b with b | b
    · exact c b
    · exact d b

/-- With no FREE slot the last check refuses. -/
theorem admitAcquire_full (s : State) (l : LockId) (h : Station) (hh : homeOf s.ctl.activeMap l = some h)
    (hu : s.lockUnused l) (hus : s.homeUsable h) (hf : ∀ u, s.slot u ≠ none) :
    s.admitAcquire l = .error .noSlot := by
  have : s.lowestFree = none := by
    unfold lowestFree
    rw [List.find?_eq_none]
    intro u _
    simpa using hf u
  unfold admitAcquire
  rw [hh]
  simp only
  rw [slotForLock_of_unused s l hu, if_neg (by simp), if_neg (s.not_unavailable_of_usable h hus), this]

/-- Past every check the lowest FREE slot and the home are answered. -/
theorem admitAcquire_ok (s : State) (l : LockId) (h : Station) (t : Tag)
    (hh : homeOf s.ctl.activeMap l = some h) (hu : s.lockUnused l) (hus : s.homeUsable h)
    (hlf : s.isLowestFree t) : s.admitAcquire l = .ok (t, h) := by
  unfold admitAcquire
  rw [hh]
  simp only
  rw [slotForLock_of_unused s l hu, if_neg (by simp), if_neg (s.not_unavailable_of_usable h hus),
    lowestFree_of_lowest s t hlf]

/-! ## Lost slots -/

/-- The request controller after a loss: every affected slot is lost, and the records stand in slot order. -/
theorem loseSlots_req (s : State) (aff : Station → Bool) (why : Reason) :
    (s.loseSlots aff why).req =
      { slots := vmapIdx (fun t sl =>
          match sl with
          | some r => if aff r.home then r.lose t why (frameStands t s.dlv.requests) else some r
          | none => none) s.req.slots,
        completions := s.req.completions ++ (List.finRange 32).filterMap (fun t =>
          match s.slot t with
          | some r => if aff r.home then r.lostRecord t why else none
          | none => none) } := by
  unfold loseSlots
  dsimp only
  split
  · rfl
  · split
    · split
      · unfold endRead
        split <;> rfl
      · rfl
    · rfl

/-- One slot after a loss. -/
theorem slot_loseSlots (s : State) (aff : Station → Bool) (why : Reason) (u : Tag) :
    (s.loseSlots aff why).slot u =
      match s.slot u with
      | some r => if aff r.home then r.lose u why (frameStands u s.dlv.requests) else some r
      | none => none := by
  unfold slot
  rw [loseSlots_req, vmapIdx_get]

/-- With no read stalled a loss leaves the port as it is. -/
theorem loseSlots_port_idle (s : State) (aff : Station → Bool) (why : Reason) (h : s.port.window = .idle) :
    (s.loseSlots aff why).port = s.port := by
  simp [loseSlots, h]

/-- The record a slot's loss posts is the one R69 to R71 give. -/
theorem lostRecord_toList (s : State) (u : Tag) (aff : Station → Bool) (why : Reason) :
    (match s.slot u with
     | some r => if aff r.home then r.lostRecord u why else none
     | none => none : Option CompletionRecord).toList = s.lostRecordsOf u aff why := by
  unfold lostRecordsOf
  cases hs : s.slot u with
  | none => rfl
  | some r =>
    simp only
    cases ha : aff r.home <;> cases ho : r.origin <;> cases hst : r.state <;> cases hh : r.hold <;>
      simp [SlotRecord.lostRecord, ho, hst, SlotRecord.isOpen, SlotRecord.toRecord, SlotRecord.heldGeneration, hh]

/-- A lost record names its own slot. -/
theorem lostRecord_slot (s : State) (aff : Station → Bool) (why : Reason) (t : Tag) (c : CompletionRecord)
    (h : (match s.slot t with
      | some r => if aff r.home then r.lostRecord t why else none
      | none => none : Option CompletionRecord) = some c) : c.slot = t := by
  cases hs : s.slot t with
  | none => simp [hs] at h
  | some r =>
    simp only [hs] at h
    split at h
    · unfold SlotRecord.lostRecord at h
      split at h <;> simp_all [SlotRecord.toRecord] <;> (rw [← h])
    · cases h

end State

/-- Of records posted one per slot, those of one slot are that slot's. -/
theorem filterMap_slots (g : Tag → Option CompletionRecord) (hk : ∀ t c, g t = some c → c.slot = t) (u : Tag) :
    ((List.finRange 32).filterMap g).filter (fun c => decide (c.slot = u)) = (g u).toList := by
  have key : ∀ l : List Tag, l.Nodup →
      (l.filterMap g).filter (fun c => decide (c.slot = u)) = if u ∈ l then (g u).toList else [] := by
    intro l
    induction l with
    | nil => simp
    | cons x xs ih =>
      intro hnd
      have hx := (List.nodup_cons.1 hnd).1
      have ih := ih (List.nodup_cons.1 hnd).2
      cases hg : g x with
      | none =>
        rw [List.filterMap_cons_none hg, ih]
        by_cases e : u = x
        · subst e
          simp [hx, hg]
        · simp [e]
      | some c =>
        rw [List.filterMap_cons_some hg, List.filter_cons, ih]
        have hc : c.slot = x := hk x c hg
        by_cases e : u = x
        · subst e
          simp [hc, hx, hg]
        · have : ¬ x = u := fun h => e h.symm
          simp [hc, e, this]
  rw [key _ (List.nodup_finRange 32)]
  simp

namespace State

/-- The records a loss posts: after those there were, those of each slot by R69 to R71. -/
theorem loseSlots_completions (s : State) (aff : Station → Bool) (why : Reason) :
    ∃ lost : List CompletionRecord, (s.loseSlots aff why).req.completions = s.req.completions ++ lost ∧
      ∀ u : Tag, lost.filter (fun c => decide (c.slot = u)) = s.lostRecordsOf u aff why := by
  refine ⟨_, by rw [loseSlots_req], ?_⟩
  intro u
  rw [← lostRecord_toList, filterMap_slots _ (s.lostRecord_slot aff why) u]

end State

/-- An open slot that posts a LOST record is DONE, holding one record more. -/
theorem SlotRecord.lose_posting (r : SlotRecord) (t : Tag) (why : Reason) (st : Bool) (ho : r.isOpen = true)
    (h : r.origin = .command ∨ r.state = .held ∨ r.state = .releasing) :
    r.lose t why st = some { r.ended with recordsPending := r.recordsPending + 1 } := by
  have : ∃ c, r.lostRecord t why = some c := by
    cases hs : r.state <;> cases hor : r.origin <;> simp_all [SlotRecord.lostRecord, SlotRecord.isOpen]
  obtain ⟨c, hc⟩ := this
  simp [SlotRecord.lose, ho, hc, SlotRecord.counting, SlotRecord.finished, SlotRecord.ended]

/-- A WINDOW slot that was not granted finishes without a record when lost. -/
theorem SlotRecord.lose_quietly (r : SlotRecord) (t : Tag) (why : Reason) (st : Bool) (ho : r.isOpen = true)
    (hor : r.origin = .window) (h1 : r.state ≠ .held) (h2 : r.state ≠ .releasing) :
    r.lose t why st = r.endedQuietly st := by
  have : r.lostRecord t why = none := by
    cases hs : r.state <;> simp_all [SlotRecord.lostRecord]
  simp [SlotRecord.lose, ho, this, SlotRecord.counting, SlotRecord.finished, SlotRecord.endedQuietly, SlotRecord.ended]

/-- A DONE slot becomes FREE when nothing of it is left, and else stays. -/
theorem SlotRecord.lose_done (r : SlotRecord) (t : Tag) (why : Reason) (st : Bool) (h : r.state = .done) :
    r.lose t why st = r.doneAfter st := by
  simp [SlotRecord.lose, SlotRecord.isOpen, h, SlotRecord.settled, SlotRecord.doneAfter]

namespace State

/-- The request controller after a purge. -/
theorem purge_req (s : State) (p : Station) (c : PurgeCause) :
    (s.purge p c).req = ((s.purgeDelivery p).loseSlots (fun h => decide (h = p)) (.purge c)).req := by
  unfold purge
  rw [loseSlots_req, loseSlots_req]
  rfl

/-- The home controller after a purge. -/
theorem purge_home (s : State) (p : Station) (c : PurgeCause) :
    (s.purge p c).home = s.home.purge (decide (s.ctl.state = .online)) p := by
  unfold purge
  simp [purgeHome]

/-- One slot after a purge. -/
theorem slot_purge (s : State) (p : Station) (c : PurgeCause) (u : Tag) :
    (s.purge p c).slot u =
      match s.slot u with
      | some r =>
        if r.home = p then
          r.lose u (.purge c) (frameStands u (s.dlv.requests.filter (fun e => decide (e.destination ≠ p))))
        else some r
      | none => none := by
  have h : (s.purge p c).slot u =
      ((s.purgeDelivery p).loseSlots (fun h => decide (h = p)) (.purge c)).slot u := by
    unfold slot
    rw [purge_req]
  rw [h, slot_loseSlots]
  have e : (s.purgeDelivery p).slot u = s.slot u := rfl
  rw [e]
  cases s.slot u <;> simp [purgeDelivery]

/-- The request controller after the entry to LEAVING. -/
theorem enterLeaving_req (s : State) :
    s.enterLeaving.req = (s.leaveDelivery.loseSlots (fun _ => true) .localLeave).req := by
  unfold enterLeaving
  rw [loseSlots_req, loseSlots_req]
  rfl

/-! ## Cancels of a PENDING slot (R61, R63, R127) -/

theorem requestIsStarted_of_started (s : State) (e : OutRequest) (h : s.frameStarted e) :
    s.requestIsStarted e = true := by
  obtain ⟨f, a, b, c⟩ := h
  simp [requestIsStarted, a, b, c]

theorem requestIsStarted_of_not_started (s : State) (e : OutRequest) (h : ¬ s.frameStarted e) :
    s.requestIsStarted e = false := by
  unfold requestIsStarted
  cases c : (s.sendRecord e.destination).started with
  | none => rfl
  | some f =>
    simp only [decide_eq_false_iff_not]
    intro d
    exact h ⟨f, c, d.1, d.2⟩

theorem requestInFlight_of_in_flight (s : State) (e : OutRequest) (h : s.frameInFlight e) :
    s.requestInFlight e.destination = true := by
  obtain ⟨a, x, y, z⟩ := h
  simp [requestInFlight, x, y, z]

theorem requestInFlight_of_not_in_flight (s : State) (e : OutRequest) (h : ¬ s.frameInFlight e) :
    s.requestInFlight e.destination = false := by
  unfold requestInFlight
  cases c : s.bus.attempt with
  | none => rfl
  | some a =>
    simp only [decide_eq_false_iff_not]
    intro d
    exact h ⟨a, c, d.1, d.2⟩

theorem frameStarted_iff (s : State) (e : OutRequest) : s.frameStarted e ↔ s.requestIsStarted e = true := by
  constructor
  · exact s.requestIsStarted_of_started e
  · intro h
    by_contra c
    rw [s.requestIsStarted_of_not_started e c] at h
    exact absurd h (by decide)

theorem frameInFlight_iff (s : State) (e : OutRequest) :
    s.frameInFlight e ↔ s.requestInFlight e.destination = true := by
  constructor
  · exact s.requestInFlight_of_in_flight e
  · intro h
    by_contra c
    rw [s.requestInFlight_of_not_in_flight e c] at h
    exact absurd h (by decide)

/-- A frame that was never started is withdrawn, and the slot finishes. -/
theorem cancelSlot_unstarted (s : State) (t : Tag) (c : CancelCause) (r : SlotRecord) (e : OutRequest)
    (hs : s.slot t = some r) (hp : r.state = .pending) (hm : r.mark = false)
    (he : acquireFrameOf t s.dlv.requests = some e) (h : ¬ s.frameStarted e) :
    s.cancelSlot t c =
      (s.withDlv { s.dlv with requests := s.dlv.requests.filter (fun x => decide (x.body.tag ≠ t)) }).finishSlot t
        { r with cancelCause := c, timer := none }
        (cancelRecord t { r with cancelCause := c, timer := none } .unsent) := by
  have i := s.requestIsStarted_of_not_started e h
  simp [cancelSlot, hs, hp, hm, he, withdrawable, i, withdrawAndFinish, withdraw]

/-- A started frame last answered BUSY or UNHEARD, with no attempt in flight, is withdrawn, and the slot
finishes. -/
theorem cancelSlot_withdraws (s : State) (t : Tag) (c : CancelCause) (r : SlotRecord) (e : OutRequest)
    (hs : s.slot t = some r) (hp : r.state = .pending) (hm : r.mark = false)
    (he : acquireFrameOf t s.dlv.requests = some e) (h : s.frameStarted e) (hf : ¬ s.frameInFlight e)
    (ha : (s.sendRecord e.destination).lastAnswer ≠ .none) :
    s.cancelSlot t c =
      (s.withDlv { s.dlv with
        requests := s.dlv.requests.filter (fun x => decide (x.body.tag ≠ t)),
        send := vset s.dlv.send e.destination (s.sendRecord e.destination).unstarted }).finishSlot t
        { r with cancelCause := c, timer := none }
        (cancelRecord t { r with cancelCause := c, timer := none } .unsent) := by
  have i := s.requestIsStarted_of_started e h
  have j := s.requestInFlight_of_not_in_flight e hf
  simp [cancelSlot, hs, hp, hm, he, withdrawable, i, j, ha, withdrawAndFinish, withdraw]
  rfl

/-- Any other standing ACQUIRE frame leaves its slot PENDING with the mark set. -/
theorem cancelSlot_marks (s : State) (t : Tag) (c : CancelCause) (r : SlotRecord) (e : OutRequest)
    (hs : s.slot t = some r) (hp : r.state = .pending) (hm : r.mark = false)
    (he : acquireFrameOf t s.dlv.requests = some e) (h : s.frameStarted e)
    (ha : s.frameInFlight e ∨ (s.sendRecord e.destination).lastAnswer = .none) :
    s.cancelSlot t c = s.setSlot t (some { r with cancelCause := c, timer := none, mark := true }) := by
  have i := s.requestIsStarted_of_started e h
  rcases ha with j | j
  · have j := s.requestInFlight_of_in_flight e j
    simp [cancelSlot, hs, hp, hm, he, withdrawable, i, j]
  · simp [cancelSlot, hs, hp, hm, he, withdrawable, i, j]

end State

end Sys2Proof.Machine
end

