-- ==== Sys2Proof/Laws/HomeSteps.lean ====
section
/-! SUPPORT. What a service step and a walk step leave when no response goes to this station itself, and what the
home table's keyed operations find (R12 to R18, R21, R22, R35, R36). -/

namespace Sys2Proof.Machine

/-! ## The table -/

/-- The entry found for a lock is that lock's. -/
theorem findEntry_lock (table : List HomeEntry) (l : LockId) (e : HomeEntry) (h : findEntry table l = some e) :
    e.lock = l := by
  simpa using List.find?_some h

/-- The entry found for a lock stands in the table. -/
theorem findEntry_mem (table : List HomeEntry) (l : LockId) (e : HomeEntry) (h : findEntry table l = some e) :
    e ∈ table :=
  List.mem_of_find?_eq_some h

/-- A stored entry is the one found for its lock. -/
theorem findEntry_putEntry (e : HomeEntry) (table : List HomeEntry) :
    findEntry (putEntry e table) e.lock = some e := by
  induction table with
  | nil => simp [putEntry, findEntry]
  | cons x xs ih =>
    unfold putEntry
    split
    · simp [findEntry]
    · split
      · simp [findEntry]
      · rename_i h
        have h' : ¬ x.lock = e.lock := fun c => h c.symm
        unfold findEntry at ih ⊢
        simpa [List.find?_cons, h'] using ih

/-- A freed lock has no entry. -/
theorem findEntry_removeEntry (l : LockId) (table : List HomeEntry) : findEntry (removeEntry l table) l = none := by
  simp [findEntry, removeEntry]

/-- The members of the pending-purge set after one joins. -/
theorem mem_insertStation (p q : Station) (l : List Station) : q ∈ insertStation p l ↔ q = p ∨ q ∈ l := by
  induction l with
  | nil => simp [insertStation]
  | cons x xs ih =>
    unfold insertStation
    split
    · simp
    · split
      · rename_i h
        subst h
        simp
      · simp only [List.mem_cons, ih]
        tauto

/-- The members of a set of holders after one joins. -/
theorem mem_insertHolder (h k : Holder) (hs : List Holder) : k ∈ insertHolder h hs ↔ k = h ∨ k ∈ hs := by
  induction hs with
  | nil => simp [insertHolder]
  | cons x xs ih =>
    unfold insertHolder
    split
    · simp
    · simp only [List.mem_cons, ih]
      tauto

/-- One more holder. -/
theorem length_insertHolder (h : Holder) (hs : List Holder) : (insertHolder h hs).length = hs.length + 1 := by
  induction hs with
  | nil => rfl
  | cons x xs ih =>
    unfold insertHolder
    split <;> simp [ih]

/-- The members of a set of holders after waiters join. -/
theorem mem_addHolders (ws : List Waiter) (hs : List Holder) (k : Holder) :
    k ∈ addHolders ws hs ↔ (∃ w ∈ ws, k = w.toHolder) ∨ k ∈ hs := by
  induction ws generalizing hs with
  | nil => simp [addHolders]
  | cons w ws ih =>
    have := ih (insertHolder w.toHolder hs)
    simp only [addHolders, List.foldl_cons] at this ⊢
    rw [this, mem_insertHolder]
    simp only [List.mem_cons, exists_eq_or_imp]
    rw [← or_assoc, or_comm (a := ∃ w ∈ ws, k = w.toHolder)]

/-- As many holders more as waiters join. -/
theorem length_addHolders (ws : List Waiter) (hs : List Holder) :
    (addHolders ws hs).length = hs.length + ws.length := by
  induction ws generalizing hs with
  | nil => simp [addHolders]
  | cons w ws ih =>
    have := ih (insertHolder w.toHolder hs)
    simp only [addHolders, List.foldl_cons] at this ⊢
    rw [this, length_insertHolder, List.length_cons]
    omega

namespace State

/-! ## Steps -/

/-- A service step that may be taken is allowed. -/
theorem serviceAllowed_of_ready (s : State) (h : s.serviceReady) : s.serviceAllowed = true := by
  obtain ⟨_, b, c, d, e⟩ := h
  simp [serviceAllowed, b, c, d, roomForStep, Config.reservedResponses, Config.outboundEntries, e]

/-- A step that may not be taken is not allowed, in a working station. -/
theorem serviceAllowed_of_not_ready (s : State) (hw : s.working) (h : ¬ s.serviceReady) :
    s.serviceAllowed = false := by
  rw [Bool.eq_false_iff]
  intro c
  apply h
  simp only [serviceAllowed, Bool.and_eq_true, decide_eq_true_eq, roomForStep, Config.reservedResponses,
    Config.outboundEntries] at c
  exact ⟨hw, c.1.1, c.1.2.1, c.1.2.2, of_decide_eq_true c.2⟩

/-- A step carried out is the state the statements name. -/
theorem carryOut_eq_homeStepDone (s : State) (rest : List InboundRequest) (x : HomeStep) :
    s.carryOut rest x = s.homeStepDone rest x.table x.responses :=
  rfl

/-- What follows a removed holder: the hold goes on, a regrant, or FREE (R27 to R30). -/
theorem afterHolderLeft_holds (e : HomeEntry) (h : e.holders ≠ []) : afterHolderLeft e = (some e, []) := by
  simp [afterHolderLeft, h]

theorem afterHolderLeft_regrants (e : HomeEntry) (h : e.holders = []) (w : e.waiters ≠ []) :
    afterHolderLeft e = (some (regrant e).1, (regrant e).2) := by
  simp [afterHolderLeft, h, w]

theorem afterHolderLeft_frees (e : HomeEntry) (h : e.holders = []) (w : e.waiters = []) :
    afterHolderLeft e = (if e.value = [] then none else some { e with state := .free }, []) := by
  by_cases v : e.value = [] <;> simp [afterHolderLeft, h, w, v]

/-- A step whose one response goes to a PRESENT peer queues it. -/
theorem carryOut_one (s : State) (rest : List InboundRequest) (p : Station) (hp : s.presentPeer p)
    (hw : s.home.walk = none) (hq : s.home.pendingPurge = []) (table : List HomeEntry) (b : ResponseBody) :
    s.carryOut rest { table := table, responses := [{ destination := p, body := b }] } =
      { s with
        home := { s.home with inbound := rest, table := table },
        dlv := { s.dlv with responses := s.dlv.responses ++ [{ destination := p, body := b }] } } := by
  have h1 : ∀ x : HomeController, ¬ (p = (s.withHome x).own) := fun _ => hp.1
  have h2 : (s.withHome { s.home with inbound := rest, table := table }).responseDeliverable p = true := by
    have h3 : ∀ x : HomeController, (s.withHome x).peer p = s.peer p := fun _ => rfl
    simp [responseDeliverable, h3, hp.2, hw, hq]
  simp only [carryOut, routeResponses, List.foldl_cons, List.foldl_nil, routeResponse, if_neg (h1 _), h2, if_true]
  rfl

/-- A step with no response changes the home only. -/
theorem carryOut_none (s : State) (rest : List InboundRequest) (table : List HomeEntry) :
    s.carryOut rest { table := table, responses := [] } =
      { s with home := { s.home with inbound := rest, table := table } } :=
  rfl

end State

end Sys2Proof.Machine
end

