-- ==== Sys2Proof/Laws/Port.lean ====
section
/-! SUPPORT. The port cycle by its strobes (R167): each kind of cycle is the command of its row, and a cycle that is
not taken changes nothing. -/

namespace Sys2Proof.Machine.State

/-- A write cycle is the write of its word (R167, R168). -/
theorem takeCycle_write (s : State) (a : PortAddr) (v : Word) :
    s.takeCycle (.write a v) = portCycle s (fun x => x.writeWord a v) := rfl

/-- A read cycle is the read of its word (R167, R168). -/
theorem takeCycle_read (s : State) (a : PortAddr) : s.takeCycle (.read a) = portCycle s (fun x => x.readWord a) := rfl

/-- A cycle with both strobes asserted is neither a read nor a write (R167). -/
theorem takeCycle_bothStrobes (s : State) (p : PortPins) (hr : p.rd = true) (hw : p.wr = true) :
    s.takeCycle p = portCycle s (fun x => x) := by
  have h1 : p.isRead = false := by simp [PortPins.isRead, hw]
  have h2 : p.isWrite = false := by simp [PortPins.isWrite, hr]
  simp [takeCycle, h1, h2]

/-- While RST- is asserted or a read is stalled no cycle is taken (R167). -/
theorem takeCycle_held (s : State) (p : PortPins) (h : s.ctl.resetAsserted = true ∨ s.port.window ≠ .idle) :
    s.takeCycle p = s := by
  unfold takeCycle portCycle
  rw [if_pos h]

/-- A read outside the acquire windows drives its word (R167, R168). -/
theorem readWord_plain (s : State) (a : PortAddr) (h : a.toNat < 0x1000 ∨ 0x3000 ≤ a.toNat) :
    s.readWord a = s.withPort { s.port with dataOut := some (s.wordAt a) } := by
  unfold readWord
  simp only
  rw [if_neg (by omega), if_neg (by omega)]

/-- A read in the exclusive acquire window is the command ACQUIRE_WINDOW_READ (R168, R185). -/
theorem takeCycle_exclusiveWindow (s : State) (l : LockId) :
    .next (s.takeCycle (.read (BitVec.ofNat 14 (0x1000 + l.toNat)))) = execAcquireWindowRead .exclusive l s := by
  have hl : l.toNat < 4096 := l.isLt
  have e : (BitVec.ofNat 14 (0x1000 + l.toNat)).toNat = 0x1000 + l.toNat := by
    rw [BitVec.toNat_ofNat]
    omega
  rw [takeCycle_read, execAcquireWindowRead]
  congr 2
  funext x
  unfold readWord
  simp only [e]
  rw [if_pos (by omega), Nat.add_sub_cancel_left, BitVec.ofNat_toNat, BitVec.setWidth_eq]

/-- A read in the shared acquire window is the command ACQUIRE_WINDOW_READ (R168, R185). -/
theorem takeCycle_sharedWindow (s : State) (l : LockId) :
    .next (s.takeCycle (.read (BitVec.ofNat 14 (0x2000 + l.toNat)))) = execAcquireWindowRead .shared l s := by
  have hl : l.toNat < 4096 := l.isLt
  have e : (BitVec.ofNat 14 (0x2000 + l.toNat)).toNat = 0x2000 + l.toNat := by
    rw [BitVec.toNat_ofNat]
    omega
  rw [takeCycle_read, execAcquireWindowRead]
  congr 2
  funext x
  unfold readWord
  simp only [e]
  rw [if_neg (by omega), if_pos (by omega), Nat.add_sub_cancel_left, BitVec.ofNat_toNat, BitVec.setWidth_eq]

end Sys2Proof.Machine.State
end

