-- ==== Sys2Proof/Laws/Receipts.lean ====
section
/-! SUPPORT. What a receipt is once its checks have passed (R90 to R95), what the send choice asks (R118, R119),
and the sync-wait list as a set of stations (R85). -/

namespace Sys2Proof.Machine

/-- Writing back what a vector holds changes nothing. -/
theorem vset_self {α : Type} {n : Nat} (v : Vector α n) (i : Fin n) : vset v i (v.get i) = v := by
  apply Vector.ext
  intro j hj
  by_cases e : i = ⟨j, hj⟩
  · subst e
    simp [vset]
    rfl
  · simp [vset, Vector.getElem_set, Fin.ext_iff] at e ⊢
    intro h
    exact absurd h e

/-- Of two writes at one index the second stands. -/
theorem vset_vset {α : Type} {n : Nat} (v : Vector α n) (i : Fin n) (x y : α) :
    vset (vset v i x) i y = vset v i y := by
  simp [vset]

namespace State

/-! ## A valid frame outside a window -/

/-- A transmission that passes the checks outside a window is a valid frame. -/
theorem receive_of_check (s : State) (rx : Reception) (f : Frame) (h : s.canReceive)
    (hc : checkFrame false rx = .ok f) :
    s.receive rx = (s.withBus s.bus.transmissionReceived).validFrame f := by
  obtain ⟨_, h2, h3⟩ := h
  have : s.bus.linePhase ≠ .window := by rcases h3 with h | h <;> simp [h]
  have h4 : s.bus.linePhase ≠ .startUp := by rcases h3 with h | h <;> simp [h]
  unfold receive
  rw [if_neg (by simp [h2, h4])]
  simp [this, hc]

/-- The line after an arbitrated frame. -/
theorem arbitratedEnds_of_canReceive (s : State) (f : Frame) (h : s.canReceive) :
    (s.withBus s.bus.transmissionReceived).arbitratedEnds f = s.windowOpened (some f.source) := by
  obtain ⟨_, _, h3⟩ := h
  rcases h3 with h | h <;>
    simp [arbitratedEnds, BusAccess.transmissionReceived, BusAccess.noteTransmission, BusAccess.openWindow, h,
      BusAccess.endCycle, windowOpened, withBus]

/-- An arbitrated frame of a peer, outside JOINING. -/
theorem receive_arbitrated (s : State) (rx : Reception) (f : Frame) (h : s.canReceive)
    (hc : checkFrame false rx = .ok f) (hb : f.body.arbitrated = true) (hj : s.ctl.state ≠ .joining)
    (hs : f.source ≠ s.own) :
    s.receive rx = ((s.windowOpened (some f.source)).restartSilence f.source).handOn f := by
  rw [receive_of_check s rx f h hc]
  unfold validFrame
  rw [if_pos hb, arbitratedEnds_of_canReceive s f h]
  have : ¬ (s.withBus s.bus.transmissionReceived).ctl.state = .joining := hj
  simp only [if_neg this]
  unfold fromSource
  rw [if_neg (show ¬ f.source = (s.windowOpened (some f.source)).own from hs)]

/-- An arbitrated frame of a peer, in JOINING: the listen ends after its effects. -/
theorem receive_joining (s : State) (rx : Reception) (f : Frame) (h : s.canReceive)
    (hc : checkFrame false rx = .ok f) (hb : f.body.arbitrated = true) (hj : s.ctl.state = .joining)
    (hs : f.source ≠ s.own) :
    s.receive rx = ((s.windowOpened (some f.source)).handOn f).enterOnline := by
  rw [receive_of_check s rx f h hc]
  unfold validFrame
  rw [if_pos hb, arbitratedEnds_of_canReceive s f h]
  have : (s.withBus s.bus.transmissionReceived).ctl.state = .joining := hj
  simp only [if_pos this]
  unfold fromSource
  rw [if_neg (show ¬ f.source = (s.windowOpened (some f.source)).own from hs)]
  unfold restartSilence
  rw [if_neg]
  rw [show (s.windowOpened (some f.source)).ctl.state = .joining from hj]
  simp

/-- In ONLINE and LEAVING the silence timer restarts. -/
theorem restartSilence_of_heard (s : State) (p : Station) (h : s.ctl.state = .online ∨ s.ctl.state = .leaving) :
    (s.windowOpened (some p)).restartSilence p = s.heard p := by
  unfold restartSilence
  rw [if_pos (show (s.windowOpened (some p)).ctl.state = .online ∨
    (s.windowOpened (some p)).ctl.state = .leaving from h)]
  rfl

@[simp] theorem peer_state_heard (s : State) (p : Station) : ((s.heard p).peer p).state = (s.peer p).state := by
  simp [heard, silenceRestarted, peer]
  rfl
@[simp] theorem peer_epoch_heard (s : State) (p : Station) : ((s.heard p).peer p).epoch = (s.peer p).epoch := by
  simp [heard, silenceRestarted, peer]
  rfl
@[simp] theorem peer_syncIn_heard (s : State) (p : Station) : ((s.heard p).peer p).syncIn = (s.peer p).syncIn := by
  simp [heard, silenceRestarted, peer]
  rfl
@[simp] theorem peer_syncOut_heard (s : State) (p : Station) :
    ((s.heard p).peer p).syncOut = (s.peer p).syncOut := by
  simp [heard, silenceRestarted, peer]
  rfl
@[simp] theorem ctl_heard (s : State) (p : Station) : (s.heard p).ctl = s.ctl := rfl
@[simp] theorem home_heard (s : State) (p : Station) : (s.heard p).home = s.home := rfl
@[simp] theorem req_heard (s : State) (p : Station) : (s.heard p).req = s.req := rfl
@[simp] theorem dlv_heard (s : State) (p : Station) : (s.heard p).dlv = s.dlv := rfl
@[simp] theorem port_heard (s : State) (p : Station) : (s.heard p).port = s.port := rfl
@[simp] theorem own_heard (s : State) (p : Station) : (s.heard p).own = s.own := rfl
@[simp] theorem slot_heard (s : State) (p : Station) (t : Tag) : (s.heard p).slot t = s.slot t := rfl
@[simp] theorem receiveRecord_heard (s : State) (p q : Station) :
    (s.heard p).receiveRecord q = s.receiveRecord q := rfl

/-- An ACK of a result as it falls due. -/
theorem dueAck_eq_answering (s : State) (f : Frame) (r : AckResult) : s.dueAck f.source f r = s.answering f r := rfl

/-- The checks of a frame in order come to its admission (R128, steps 1 to 6). -/
theorem receiveChecks_of_inOrder (s : State) (f : Frame) (h : s.inOrder f) :
    (s.heard f.source).receiveChecks f.source f = (s.heard f.source).admitFrame f.source f := by
  obtain ⟨h1, h2, h3⟩ := h
  unfold receiveChecks
  simp only [peer_state_heard, h1, peer_syncIn_heard, receiveRecord_heard]
  rw [if_neg (by rw [h2]; rintro ⟨a, b⟩; simp_all), if_neg h3, if_neg (by rw [h2]; rintro ⟨a, b⟩; simp_all)]

/-- An accepted frame updates the receive record and leaves sync-in clear (R129, R130). -/
theorem takeFrame_of_sync (x : State) (f : Frame) (h : f.sync = true ∨ (x.peer f.source).syncIn = false) :
    x.takeFrame f.source f = (x.frameTaken f).dispatch f.source f.body := by
  unfold takeFrame frameTaken
  cases hs : f.sync with
  | true => rfl
  | false =>
    have e : (x.peer f.source).syncIn = false := by
      rcases h with h | h
      · rw [hs] at h
        cases h
      · exact h
    have k : ({ x.peer f.source with syncIn := false } : PeerRecord) = x.roster.peers.get f.source := by
      rw [← e]
      rfl
    have v : vset x.roster.peers f.source ({ x.peer f.source with syncIn := false } : PeerRecord) =
        x.roster.peers := by
      rw [k, vset_self]
    have w : ∀ r : AckResult, (x.answering f r).roster.peers = x.roster.peers := fun _ => rfl
    have u : ∀ r : AckResult, (x.answering f r).peer f.source = x.peer f.source := fun _ => rfl
    simp only [w, u, v]
    rfl

/-- An accepted frame in order updates the receive record and clears sync-in (R129, R130). -/
theorem takeFrame_of_inOrder (s : State) (f : Frame) (h : s.inOrder f) :
    (s.heard f.source).takeFrame f.source f = (s.accepted f).dispatch f.source f.body := by
  apply takeFrame_of_sync
  rw [peer_syncIn_heard, ← h.2.1]
  cases f.sync <;> simp

/-- The checks of R128 give what `discards` says at the steps that discard a frame. -/
theorem receiveChecks_discards (s : State) (f : Frame) :
    s.discards f (.next ((s.heard f.source).receiveChecks f.source f)) := by
  unfold receiveChecks
  simp only [peer_state_heard, peer_syncIn_heard, receiveRecord_heard]
  refine ⟨?_, ?_, ?_⟩
  · intro h
    simp only [h, dueAck_eq_answering]
  · rintro (h | h) <;> simp only [h] <;> rfl
  · intro h
    simp only [h]
    refine ⟨?_, ?_⟩
    · intro h2 h3
      rw [if_pos ⟨h2, h3⟩]
      rfl
    · intro h2 h3
      rw [if_neg (by rintro ⟨a, b⟩; rcases h2 with h2 | h2 <;> simp_all), if_pos h3]
      rfl

/-- The entry to ONLINE, field by field. -/
theorem enterOnline_entersOnline (s : State) : s.entersOnline s.enterOnline := by
  refine ⟨rfl, rfl, rfl, rfl, rfl, rfl, rfl, rfl, rfl, rfl, rfl, ?_, ?_⟩
  · intro p
    simp [enterOnline, receiveRecord]
  · intro p hp
    simp only [enterOnline, sendRecord, peer, withDlv, withRoster, withCtl, vmapIdx_get]
    rw [if_neg (by exact hp), if_neg (by exact hp)]
    exact ⟨rfl, rfl⟩

/-- An arbitrated frame that the station does not answer, with what the roster makes of it in JOINING. -/
theorem receive_unanswered (s : State) (rx : Reception) (f : Frame) (h : s.canReceive)
    (hc : checkFrame false rx = .ok f) (hb : f.body.arbitrated = true) (atRoster : State → State)
    (hr : s.ctl.state = .joining →
      (s.windowOpened (some f.source)).handOn f = atRoster (s.windowOpened (some f.source))) :
    s.unanswered f atRoster (.next (s.receive rx)) := by
  have own : f.source = s.own → (s.windowOpened (some f.source)).fromSource f = s.duplicateHeard := by
    intro hs
    unfold fromSource
    rw [if_pos (show f.source = (s.windowOpened (some f.source)).own from hs), hs]
    rfl
  refine ⟨?_, ?_, ?_, ?_⟩
  · intro hs hj
    rw [receive_of_check s rx f h hc]
    unfold validFrame
    have : ¬ (s.withBus s.bus.transmissionReceived).ctl.state = .joining := hj
    rw [if_pos hb, arbitratedEnds_of_canReceive s f h]
    simp only [if_neg this, own hs]
  · intro hs hj
    refine ⟨_, rfl, ?_⟩
    rw [receive_of_check s rx f h hc]
    unfold validFrame
    have : (s.withBus s.bus.transmissionReceived).ctl.state = .joining := hj
    rw [if_pos hb, arbitratedEnds_of_canReceive s f h]
    simp only [if_pos this, own hs]
    exact enterOnline_entersOnline _
  · intro hs hj
    rw [receive_arbitrated s rx f h hc hb (by simp [hj]) hs]
    unfold restartSilence
    rw [if_neg (by show ¬ (s.ctl.state = .online ∨ s.ctl.state = .leaving); simp [hj])]
    unfold handOn
    rw [show (s.windowOpened (some f.source)).ctl.state = .config from hj]
  · intro hs hj
    refine ⟨_, rfl, ?_⟩
    rw [receive_joining s rx f h hc hb hj hs, hr hj]
    exact enterOnline_entersOnline _

/-- A request or response frame to another station is heard, and no more (R95). -/
theorem receive_elsewhere (s : State) (rx : Reception) (f : Frame) (h : s.canReceive)
    (hc : checkFrame false rx = .ok f) (hb : (∃ b, f.body = .request b) ∨ ∃ b, f.body = .response b)
    (ho : s.ctl.state = .online ∨ s.ctl.state = .leaving) (hs : f.source ≠ s.own) (ha : f.addressee ≠ some s.own) :
    s.receive rx = s.heard f.source := by
  have ar : f.body.arbitrated = true := by rcases hb with ⟨b, hb⟩ | ⟨b, hb⟩ <;> rw [hb] <;> rfl
  have hj : s.ctl.state ≠ .joining := by rcases ho with ho | ho <;> simp [ho]
  have hn : ¬ f.addressee = some (s.heard f.source).own := ha
  rw [receive_arbitrated s rx f h hc ar hj hs, restartSilence_of_heard s _ ho]
  unfold handOn
  rcases ho with ho | ho <;> rcases hb with ⟨b, hb⟩ | ⟨b, hb⟩ <;> simp only [ctl_heard, ho, hb, if_neg hn]

/-- A request or response frame of a peer to this ONLINE station meets the checks of R128. -/
theorem receive_addressed (s : State) (rx : Reception) (f : Frame) (h : s.canReceive)
    (hc : checkFrame false rx = .ok f) (hb : (∃ b, f.body = .request b) ∨ ∃ b, f.body = .response b)
    (ho : s.ctl.state = .online) (hs : f.source ≠ s.own) (ha : f.addressee = some s.own) :
    s.receive rx = (s.heard f.source).receiveChecks f.source f := by
  have ar : f.body.arbitrated = true := by rcases hb with ⟨b, hb⟩ | ⟨b, hb⟩ <;> rw [hb] <;> rfl
  have hn : f.addressee = some (s.heard f.source).own := ha
  rw [receive_arbitrated s rx f h hc ar (by simp [ho]) hs, restartSilence_of_heard s _ (Or.inl ho)]
  unfold handOn
  rcases hb with ⟨b, hb⟩ | ⟨b, hb⟩ <;> simp only [ctl_heard, ho, hb, if_pos hn]

/-! ## A valid ACK in the window -/

/-- A valid ACK in the window: the line, and what its source and the station's state make of it (R92 to R95). -/
theorem receive_ack (s : State) (rx : Reception) (f : Frame) (n : Byte) (r : AckResult)
    (hq : s.bus.ownSending = false) (hl : s.bus.linePhase = .window) (hc : checkFrame true rx = .ok f)
    (hb : f.body = .ack n r) : s.receive rx = s.windowHeard.fromSource f := by
  unfold receive
  rw [if_neg (by simp [hl, hq])]
  simp only [hl, decide_true, hc]
  unfold validFrame
  rw [if_neg (by rw [hb]; simp [FrameBody.arbitrated])]
  simp only [BusAccess.transmissionReceived, BusAccess.noteTransmission, windowHeard, hl]
  rfl

/-- The condition under which an ACK answers an attempt, with the attempt's window open (R89). -/
theorem answers_iff (s : State) (a : Attempt) (f : Frame) (n : Byte) (hl : s.bus.linePhase = .window) :
    s.answers a f n = true ↔ a.answeredBy f s.own n := by
  unfold answers Attempt.answeredBy
  cases hk : a.kind with
  | presence => simp
  | leave => simp
  | addressed d q =>
    cases q <;> simp only [hl, AttemptKind.addressed.injEq, reduceCtorEq, and_true, and_false, or_false, false_or,
      true_and, decide_eq_true_eq] <;>
    exact ⟨fun ⟨h1, h2, h3, h4⟩ => ⟨h1, h3.symm, h2, h4.symm⟩, fun ⟨h1, h2, h3, h4⟩ => ⟨h1, h3, h2.symm, h4.symm⟩⟩

/-! ## The choice of a frame -/

/-- The oldest frame of a queue for a destination may start exactly when R118 lets it. -/
theorem mayStart_iff (s : State) (q : OutQueue) (d : Station) : s.mayStart q d = true ↔ s.frameReady q d := by
  unfold mayStart frameReady
  cases h : (s.sendRecord d).started <;> simp [and_assoc]

/-- One station's bit. -/
theorem stationBit (x q : Station) : (1#16 <<< x.val).getLsbD q.val = true ↔ q = x := by
  revert x q
  decide

/-- The sync-wait list holds the peers whose sync-in flag is set. -/
theorem syncWaitList_bit (s : State) (q : Station) :
    s.syncWaitList.getLsbD q.val = true ↔ q ≠ s.own ∧ (s.peer q).syncIn = true := by
  have key : ∀ (l : List Station) (w : Word), ((l.foldl
      (fun w p => if p ≠ s.own ∧ (s.peer p).syncIn = true then w ||| (1#16 <<< p.val) else w) w).getLsbD q.val = true
        ↔ w.getLsbD q.val = true ∨ (q ∈ l ∧ q ≠ s.own ∧ (s.peer q).syncIn = true)) := by
    intro l
    induction l with
    | nil => simp
    | cons x xs ih =>
      intro w
      rw [List.foldl_cons, ih]
      by_cases c : x ≠ s.own ∧ (s.peer x).syncIn = true
      · rw [if_pos c]
        have e : (w ||| (1#16 <<< x.val)).getLsbD q.val = true ↔ w.getLsbD q.val = true ∨ q = x := by
          simp only [BitVec.getLsbD_or, Bool.or_eq_true, stationBit]
        rw [e]
        constructor
        · rintro ((h | h) | h)
          · exact Or.inl h
          · subst h
            exact Or.inr ⟨by simp, c⟩
          · exact Or.inr ⟨by simp [h.1], h.2⟩
        · rintro (h | ⟨h, h'⟩)
          · exact Or.inl (Or.inl h)
          · simp at h
            rcases h with h | h
            · exact Or.inl (Or.inr h)
            · exact Or.inr ⟨h, h'⟩
      · rw [if_neg c]
        constructor
        · rintro (h | h)
          · exact Or.inl h
          · exact Or.inr ⟨by simp [h.1], h.2⟩
        · rintro (h | ⟨h, h'⟩)
          · exact Or.inl h
          · simp at h
            rcases h with h | h
            · subst h
              exact absurd h' c
            · exact Or.inr ⟨h, h'⟩
  unfold syncWaitList
  rw [key]
  simp

end State

end Sys2Proof.Machine
end

