-- ==== Sys2Proof/Laws/Wire.lean ====
section
/-! SUPPORT. What the receiver makes of the characters a sender puts on the line (R97 to R99). -/

namespace Sys2Proof.Machine

/-- A character read back gives its byte and the levels after it. -/
theorem readCharacter_of_character (b : Byte) (rest : Levels) :
    readCharacter (characterLevels b ++ rest) = some (b, rest) := by
  have key : ∀ x : Byte, byteOfLevels (!x.getLsbD 7) (!x.getLsbD 6) (!x.getLsbD 5) (!x.getLsbD 4)
      (!x.getLsbD 3) (!x.getLsbD 2) (!x.getLsbD 1) (!x.getLsbD 0) = x := by
    decide
  simp only [characterLevels, bitsOf, List.map_cons, List.map_nil, List.cons_append, List.nil_append,
    readCharacter, key]

/-- A character fails when its start bit does not follow or its stop bit is dominant (R99). -/
theorem readCharacter_fails (ls : Levels) (h : ls.head? ≠ some true ∨ ls[9]? ≠ some false) :
    readCharacter ls = none := by
  unfold readCharacter
  split
  · simp at h
  · rfl

/-- Characters read back one after the other give their bytes. -/
theorem readCharacters_of_characters (bs : List Byte) (rest : Levels) :
    readCharacters bs.length (bs.flatMap characterLevels ++ rest) = some (bs, rest) := by
  induction bs with
  | nil => rfl
  | cons b bs ih =>
    simp only [List.length_cons, List.flatMap_cons, List.append_assoc, readCharacters,
      readCharacter_of_character, ih]

/-- Fewer characters than asked for, with a failing one after them, give none. -/
theorem readCharacters_fails (bs : List Byte) (rest : Levels) (n : Nat) (hn : bs.length < n)
    (h : readCharacter rest = none) : readCharacters n (bs.flatMap characterLevels ++ rest) = none := by
  induction bs generalizing n with
  | nil =>
    cases n with
    | zero => simp at hn
    | succ n => simp [readCharacters, h]
  | cons b bs ih =>
    cases n with
    | zero => simp at hn
    | succ n =>
      simp only [List.flatMap_cons, List.append_assoc, readCharacters, readCharacter_of_character]
      rw [ih n (by simpa using hn)]

/-- A character that is not the delimiter begins no frame (R99). -/
theorem readFrame_of_other (first : Byte) (rest : Levels) (h : first ≠ delimiter) :
    readFrame (characterLevels first ++ rest) = none := by
  simp only [readFrame, readCharacter_of_character]
  rw [if_pos h]

/-- The delimiter and five header characters: what follows is the body and the CRC, unless the body length exceeds
23 (R99). -/
theorem readFrame_of_header (header : List Byte) (rest : Levels) (h : header.length = 5) :
    readFrame (characterLevels delimiter ++ header.flatMap characterLevels ++ rest) =
      if Config.maxBody < (header.getD 4 0#8).toNat then none
      else (readCharacters ((header.getD 4 0#8).toNat + 2) rest).map (fun x => (header ++ x.1, x.2)) := by
  have e := readCharacters_of_characters header rest
  rw [h] at e
  simp only [readFrame, List.append_assoc, readCharacter_of_character, e]
  rw [if_neg (by simp)]
  by_cases c : Config.maxBody < (header.getD 4 0#8).toNat
  · rw [if_pos c, if_pos c]
  · rw [if_neg c, if_neg c]
    cases readCharacters ((header.getD 4 0#8).toNat + 2) rest <;> rfl

/-- The delimiter and fewer than five characters, then one that fails, are no frame (R99). -/
theorem readFrame_of_short (bs : List Byte) (rest : Levels) (h : bs.length < 5) (hr : readCharacter rest = none) :
    readFrame (characterLevels delimiter ++ bs.flatMap characterLevels ++ rest) = none := by
  simp only [readFrame, List.append_assoc, readCharacter_of_character, readCharacters_fails bs rest 5 h hr]
  rw [if_neg (by simp)]

/-- Splitting a transmission's bytes into the header and the rest. -/
theorem levels_split (bs : List Byte) (rest : Levels) :
    characterLevels delimiter ++ bs.flatMap characterLevels ++ rest =
      characterLevels delimiter ++ (bs.take 5).flatMap characterLevels ++
        ((bs.drop 5).flatMap characterLevels ++ rest) := by
  conv => lhs; rw [← List.take_append_drop 5 bs]
  simp only [List.flatMap_append, List.append_assoc]

/-- A frame of the length its header gives is received complete, whatever follows it on the line (R99). -/
theorem readFrame_of_bytes (bs : List Byte) (rest : Levels) (h : (bs.getD 4 0#8).toNat ≤ Config.maxBody)
    (hl : bs.length = 7 + (bs.getD 4 0#8).toNat) :
    readFrame (characterLevels delimiter ++ bs.flatMap characterLevels ++ rest) = some (bs, rest) := by
  have h5 : (bs.take 5).length = 5 := by
    rw [List.length_take]
    omega
  have e4 : (bs.take 5).getD 4 0#8 = bs.getD 4 0#8 := by
    simp [List.getD_eq_getElem?_getD]
  have hd : (bs.drop 5).length = (bs.getD 4 0#8).toNat + 2 := by
    rw [List.length_drop]
    omega
  have e := readCharacters_of_characters (bs.drop 5) rest
  rw [hd] at e
  rw [levels_split, readFrame_of_header _ _ h5, e4, if_neg (by omega), e]
  simp

/-- The levels of a frame are received as its bytes. -/
theorem receptionOf_bytes (bs : List Byte) (rest : Levels) (h : (bs.getD 4 0#8).toNat ≤ Config.maxBody)
    (hl : bs.length = 7 + (bs.getD 4 0#8).toNat) :
    receptionOf (characterLevels delimiter ++ bs.flatMap characterLevels ++ rest) = .complete bs := by
  rw [receptionOf, readFrame_of_bytes bs rest h hl]

end Sys2Proof.Machine
end

