-- ==== Sys2Proof/Tests/Slice0.lean ====
section
/-! SUPPORT. Tests on fixed values: what the check of commands refuses, the spec's own examples, and for every
statement with hypotheses a state and operands that meet them, clause by clause. The tests are checked one after the other, so that their
evaluations do not stand in memory together. -/

set_option Elab.async false

namespace Sys2Proof.Tests.Slice0

open Sys2Proof.Machine

/-! ## Small states: the system of 12_worked_sequences.md -/

/-- Three ranges: 0 to 1023 at station 0, 1024 to 2047 at station 1, 2048 to 4095 at station 2. -/
def map3 : List MapRange :=
  [{ first := 0#12, last := 1023#12, home := 0 }, { first := 1024#12, last := 2047#12, home := 1 },
   { first := 2048#12, last := 4095#12, home := 2 }]

/-- Its configuration block. -/
def cfg3 : ConfigBlock :=
  { epoch := 0x3A41#16, presenceInterval := 50#16, silenceLimit := 4#16, windowWaitLimit := 20#16,
    rangeCount := 3#16,
    ranges := vset (vset (vset ConfigBlock.zero.ranges 0 { first := 0#16, last := 1023#16, home := 0#16 })
      1 { first := 1024#16, last := 2047#16, home := 1#16 }) 2 { first := 2048#16, last := 4095#16, home := 2#16 } }

/-- A peer in a state, with its flags clear. -/
def peerIn (x : PeerState) : PeerRecord :=
  { state := x, epoch := some 0x3A41#16, silenceTimer := some 200, syncOut := false, syncIn := false }

/-- A station ONLINE, every peer PRESENT, every queue empty, a cycle running with the reference 2. -/
def online (own : Station) : State :=
  let s := State.powerOn { stationNumber := own, rateClass := 3#2 } []
  { s with
    ctl := { s.ctl with
      state := .online, cfg := cfg3, activeMap := map3, digest := 0x1234#16, mapActive := true },
    roster := { peers := Vector.replicate 16 (peerIn .present), presenceTimer := some 50, fresh := false },
    bus := { s.bus with
      linePhase := .cycle, reference := some 2, positionCounter := some 1,
      ownPosition := some (ownPositionOf own (some 2)) } }

/-- With a station state. -/
def inState (x : StationState) (s : State) : State := s.withCtl { s.ctl with state := x }

/-- With RST- asserted. -/
def held (s : State) : State := s.withCtl { s.ctl with resetAsserted := true }

/-- With a peer in a state. -/
def withPeer (p : Station) (x : PeerState) (s : State) : State := s.setPeer p (peerIn x)

/-- With staging words: lock, mode, wait, timeout, update, length. -/
def stage (l m w t u n : Word) (s : State) : State :=
  s.withPort { s.port with
    staging := vset (vset (vset (vset (vset (vset s.port.staging 0 l) 1 m) 2 w) 3 t) 4 u) 5 n }

/-- A slot record for lock 1040, homed at station 1. -/
def slotRec (x : SlotState) (o : Origin) : SlotRecord :=
  { state := x, lock := 1040#12, mode := .exclusive, origin := o, home := 1, timer := none, cancelCause := .none,
    mark := false, hold := none, recordsPending := 0, owed := none }

/-- The same, holding generation 7 and a value of two bytes. -/
def heldRec (x : SlotState) (o : Origin) : SlotRecord :=
  { slotRec x o with hold := some { generation := 7#16, value := [0xAA#8, 0xBB#8] } }

/-- Its ACQUIRE frame, with tag t. -/
def acqFrame (t : Tag) : OutRequest := { destination := 1, body := .acquire 1040#12 t .exclusive .queue }

/-- With a read stalled for a slot. -/
def stalled (t : Tag) (s : State) : State := s.withPort { s.port with window := .stalled t 20 }

/-- With a line phase, no position running. -/
def onLine (x : LinePhase) (s : State) : State :=
  s.withBus { s.bus with linePhase := x, positionCounter := none, ownPosition := none }

/-- With an attempt in flight. -/
def attempting (a : Attempt) (s : State) : State := s.withBus { s.bus with attempt := some a }

/-- An attempt of the ACQUIRE frame of slot 3 to station 1. -/
def acqAttempt (x : AttemptPhase) (answer : Option AckResult) : Attempt :=
  { kind := .addressed 1 .request, phase := x, answer := answer, ignored := false,
    frame := addressedFrame 2 1 9#8 false (.request (.acquire 1040#12 3 .exclusive .queue)) }

/-- An attempt of a broadcast. -/
def bcAttempt (k : AttemptKind) (x : AttemptPhase) : Attempt :=
  { kind := k, phase := x, answer := none, ignored := false, frame := presenceFrame 2 true 0x3A41#16 0x1234#16 0#16 }

/-- With a started request to station 1. -/
def started (q : OutQueue) (n : Nat) (s : State) : State :=
  s.setSend 1 { nextSequence := 9#8, started := some { queue := q, sequence := 9#8, sync := false }, attempts := n,
                lastAnswer := .none, holdOff := none }

/-- A home entry of lock 3000 at station 2. -/
def entry (x : LockState) (hs : List Holder) (ws : List Waiter) : HomeEntry :=
  { lock := 3000#12, state := x, holders := hs, waiters := ws, generation := 8#16, value := [1#8, 2#8] }

/-- With a home table and one inbound request of a peer. -/
def serving (table : List HomeEntry) (p : Station) (b : RequestBody) (s : State) : State :=
  s.withHome { s.home with table := table, inbound := [{ source := p, body := b }] }

/-- A transmission that breaks off after its delimiter, to the end of the run that closes it. -/
def brokenOff : Levels := characterLevels 0x55#8 ++ List.replicate 9 false

/-! ## What the check of commands refuses -/

theorem test_wf_registerWrite : WellFormed.instr (.registerWrite 0x008#14 1#16) = true := by decide
theorem test_wf_registerWrite_enable : WellFormed.instr (.registerWrite 0x002#14 1#16) = false := by decide
theorem test_wf_registerWrite_pop : WellFormed.instr (.registerWrite 0x04C#14 0#16) = false := by decide
theorem test_wf_registerWrite_submit : WellFormed.instr (.registerWrite 0x03E#14 1#16) = false := by decide
theorem test_wf_registerWrite_release : WellFormed.instr (.registerWrite 0x3000#14 0#16) = false := by decide
theorem test_wf_readBackMismatch : WellFormed.instr (.readBackMismatch 310) = false := by decide
theorem test_wf_requestReceipt : WellFormed.instr (.requestFrameReceipt []) = false := by decide
theorem test_wf_responseReceipt : WellFormed.instr (.responseFrameReceipt []) = false := by decide
theorem test_wf_presenceReceipt : WellFormed.instr (.presenceReceipt []) = false := by decide
theorem test_wf_leaveReceipt : WellFormed.instr (.leaveFrameReceipt []) = false := by decide
theorem test_wf_ackReceipt : WellFormed.instr (.ackReceipt []) = false := by decide

/-- A PRESENCE's levels are not a LEAVE's, and levels that end within a transmission are none. -/
theorem test_wf_class :
    WellFormed.instr (.presenceReceipt (presenceFrame 1 false 1#16 2#16 0#16).levels) = true ∧
    WellFormed.instr (.leaveFrameReceipt (presenceFrame 1 false 1#16 2#16 0#16).levels) = false ∧
    WellFormed.instr (.presenceReceipt ((presenceFrame 1 false 1#16 2#16 0#16).levels ++ [false])) = false ∧
    WellFormed.instr (.malformedFrame brokenOff) = true ∧ WellFormed.instr (.malformedFrame []) = false := by
  decide +kernel

/-! ## The spec's own numbers -/

/-- Over zero bytes the CRC is FFFFh (R7). -/
theorem test_crc_empty : crc16 [] = 0xFFFF#16 := by decide

/-- A frame's bytes with their CRC leave 0. -/
theorem test_crc_residue : crc16 (ackFrame 1 0 9#8 .accept).bytes = 0#16 := by decide +kernel

/-- The ACQUIRE of section 11.1's example. -/
theorem test_acquire_bytes :
    (addressedFrame 0 1 9#8 false (.request (.acquire 1040#12 3 .exclusive .queue))).coveredBytes =
      [0x10#8, 0x01#8, 0x00#8, 0x09#8, 0x05#8, 0x04#8, 0x10#8, 0x03#8, 0x01#8, 0x02#8] := by
  decide +kernel

/-- Its ACK. -/
theorem test_ack_bytes :
    (ackFrame 1 0 9#8 .accept).coveredBytes = [0xA0#8, 0x00#8, 0x01#8, 0x00#8, 0x02#8, 0x09#8, 0x01#8] := by
  decide +kernel

/-- The digest bytes of the example map, the ranges being sorted. -/
theorem test_digest_bytes :
    (sortRanges map3.reverse).flatMap MapRange.digestBytes =
      [0x00#8, 0x00#8, 0x03#8, 0xFF#8, 0x00#8, 0x00#8, 0x04#8, 0x00#8, 0x07#8, 0xFF#8, 0x00#8, 0x01#8,
       0x08#8, 0x00#8, 0x0F#8, 0xFF#8, 0x00#8, 0x02#8] := by
  decide +kernel

/-- A station numbered 9 of rate class 3, after a power-on reset, reads 2700h (R166). -/
theorem test_status_word :
    (State.powerOn { stationNumber := 9, rateClass := 3#2 } []).wordAt 0x001#14 = 0x2700#16 := by decide +kernel

/-- The probe of section 11.2's example. -/
theorem test_probe_words :
    let s := (online 4).withHome { (online 4).home with table :=
      [{ lock := 600#12, state := .shared, holders := [{ station := 1, tag := 0 }],
         waiters := [{ station := 3, tag := 1, mode := .exclusive }, { station := 5, tag := 1, mode := .shared },
           { station := 6, tag := 1, mode := .shared }, { station := 8, tag := 1, mode := .shared }],
         generation := 7#16, value := [1#8, 2#8, 3#8, 4#8] }] }
    let t := s.withPort { s.port with probeLock := 600#16 }
    (t.wordAt 0x051#14, t.wordAt 0x052#14, t.wordAt 0x053#14, t.wordAt 0x054#14) =
      (0x9493#16, 0x0002#16, 0x0007#16, 0x0004#16) := by
  decide +kernel

/-- The positions of section 5.2's example: reference 5. -/
theorem test_own_positions :
    (ownPositionOf 6 (some 5), ownPositionOf 15 (some 5), ownPositionOf 0 (some 5), ownPositionOf 5 (some 5)) =
      (1, 10, 11, 16) := by
  decide

/-- Section 12.2: a release empties the holders, and the SHARED waiters up to station 2 are granted together. -/
theorem test_shared_batch :
    releaseStep [{ lock := 1500#12, state := .exclusive, holders := [{ station := 3, tag := 4 }],
                   waiters := [{ station := 0, tag := 2, mode := .shared }, { station := 1, tag := 9, mode := .shared },
                     { station := 2, tag := 6, mode := .exclusive }],
                   generation := 8#16, value := [1#8, 2#8] }] 3 4 1500#12 8#16 false [] =
      { table := [{ lock := 1500#12, state := .shared,
                    holders := [{ station := 0, tag := 2 }, { station := 1, tag := 9 }],
                    waiters := [{ station := 2, tag := 6, mode := .exclusive }], generation := 9#16,
                    value := [1#8, 2#8] }],
        responses := [{ destination := 3, body := .released 1500#12 4 .ok },
          { destination := 0, body := .grant 1500#12 2 .shared 9#16 [1#8, 2#8] },
          { destination := 1, body := .grant 1500#12 9 .shared 9#16 [1#8, 2#8] }] } := by
  decide +kernel

/-! ## A state for every statement -/

/-- O1, O4, O5: an empty queue; the two reset commands; RST- asserted, released, and a read stalled. -/
theorem witness_resets :
    State.reset.pending = [] ∧ (held (online 2)).ctl.resetAsserted = true ∧ (online 2).ctl.resetAsserted = false ∧
    (stalled 3 (online 2)).port.window = .stalled 3 20 := by
  decide +kernel

/-- A station ready to take an ACQUIRE of a lock. -/
def acq (l : Word) : State := stage l 1#16 2#16 0#16 0#16 0#16 (online 2)

/-- O6: an ACQUIRE at both ends of the lock IDs, homed at a peer and at this station. -/
theorem witness_AcquireOpensSlot :
    ((acq 0#16).portFree ∧ (acq 0#16).ctl.state = .online ∧ (acq 0#16).stagedLock = some 0#12 ∧
      (acq 0#16).stagedMode = some .exclusive ∧ (acq 0#16).stagedWait = some .queue ∧
      homeOf (acq 0#16).ctl.activeMap 0#12 = some 0 ∧ (acq 0#16).lockUnused 0#12 ∧
      (acq 0#16).homeUsable 0 ∧ (acq 0#16).isLowestFree 0) ∧
    ((acq 4095#16).stagedLock = some 4095#12 ∧ homeOf (acq 4095#16).ctl.activeMap 4095#12 = some 2 ∧
      (acq 4095#16).lockUnused 4095#12 ∧ (acq 4095#16).homeUsable 2 ∧ (acq 4095#16).isLowestFree 0) := by
  decide +kernel

/-- The request table with every slot taken. -/
def full : State :=
  let s := acq 1040#16
  s.withReq { s.req with
    slots := vmapIdx (fun t _ => some { slotRec .waiting .command with lock := BitVec.ofNat 12 t.val }) s.req.slots }

/-- O7: each refusal of an ACQUIRE, the fields at the values where they turn bad. -/
theorem witness_AcquireRefused :
    ((inState .leaving (acq 1040#16)).portFree ∧ (inState .leaving (acq 1040#16)).ctl.state ≠ .online) ∧
    4095 < ((acq 4096#16).staged 0).toNat ∧
    ((stage 0#16 3#16 2#16 0#16 0#16 0#16 (online 2)).staged 1 ≠ 1#16 ∧
      (stage 0#16 3#16 2#16 0#16 0#16 0#16 (online 2)).staged 1 ≠ 2#16) ∧
    ((stage 0#16 1#16 0#16 0#16 0#16 0#16 (online 2)).staged 2 ≠ 1#16 ∧
      (stage 0#16 1#16 0#16 0#16 0#16 0#16 (online 2)).staged 2 ≠ 2#16) ∧
    ((acq 4095#16).staged 0).toNat ≤ 4095 ∧ (acq 4095#16).staged 1 = 1#16 ∧ (acq 4095#16).staged 2 = 2#16 ∧
    homeOf (State.reset.ctl.activeMap) ((acq 1040#16).staged 0 |>.setWidth 12) = none ∧
    homeOf (acq 1040#16).ctl.activeMap 1040#12 = some 1 ∧
    ¬ ((acq 1040#16).setSlot 0 (some (slotRec .waiting .command))).lockUnused 1040#12 ∧
    ((acq 1040#16).lockUnused 1040#12 ∧ ¬ (withPeer 1 .absent (acq 1040#16)).homeUsable 1 ∧
      ¬ (withPeer 1 .mismatched (acq 1040#16)).homeUsable 1) ∧
    (full.lockUnused 1040#12 ∧ full.homeUsable 1 ∧ ∀ u : Tag, full.slot u ≠ none) := by
  decide +kernel

/-- A station with one slot for lock 1040, with that lock staged. -/
def oneSlot (t : Tag) (r : SlotRecord) : State := (acq 1040#16).setSlot t (some r)

/-- O8: a HELD slot, with and without a standing frame. -/
theorem witness_ReleaseTaken :
    let s := oneSlot 3 (heldRec .held .command)
    s.portFree ∧ s.ctl.state = .online ∧ s.stagedLock = some 1040#12 ∧ s.stagedUpdate = some (false, []) ∧
    s.slot 3 = some (heldRec .held .command) ∧ (heldRec .held .command).lock = 1040#12 ∧ s.onlySlot 3 1040#12 ∧
    (heldRec .held .command).state = .held ∧
    (heldRec .held .command).hold = some { generation := 7#16, value := [0xAA#8, 0xBB#8] } ∧
    frameStands 3 s.dlv.requests = false ∧ frameStands 3 (s.appendRequest (acqFrame 3)).dlv.requests = true ∧
    (stage 1040#16 1#16 2#16 0#16 1#16 16#16 s).stagedUpdate = some (true, List.replicate 16 0#8) := by
  decide +kernel

/-- O11: each refusal of a RELEASE and of a CANCEL. -/
theorem witness_ReleaseAndCancelRefused :
    (inState .joining (online 2)).portFree ∧ (inState .joining (online 2)).ctl.state ≠ .online ∧
    4095 < ((acq 4096#16).staged 0).toNat ∧
    ((stage 0#16 1#16 1#16 0#16 2#16 0#16 (online 2)).staged 4 ≠ 0#16 ∧
      (stage 0#16 1#16 1#16 0#16 2#16 0#16 (online 2)).staged 4 ≠ 1#16) ∧
    ((stage 0#16 1#16 1#16 0#16 1#16 17#16 (online 2)).staged 4 = 1#16 ∧
      16 < ((stage 0#16 1#16 1#16 0#16 1#16 17#16 (online 2)).staged 5).toNat) ∧
    (acq 1040#16).lockUnused ((acq 1040#16).staged 0 |>.setWidth 12) ∧ (acq 1040#16).staged 4 = 0#16 ∧
    (let s := oneSlot 3 { slotRec .pending .command with mark := true }
     s.slot 3 = some { slotRec .pending .command with mark := true } ∧
       1040#12 = (s.staged 0 |>.setWidth 12) ∧ s.onlySlot 3 1040#12) := by
  decide +kernel

/-- O9: a WAITING slot, with and without a standing frame. -/
theorem witness_CancelOfWaitingSlot :
    let s := oneSlot 3 (slotRec .waiting .command)
    s.portFree ∧ s.ctl.state = .online ∧ s.stagedLock = some 1040#12 ∧ s.slot 3 = some (slotRec .waiting .command) ∧
    (slotRec .waiting .command).lock = 1040#12 ∧ s.onlySlot 3 1040#12 ∧ (slotRec .waiting .command).state = .waiting ∧
    frameStands 3 s.dlv.requests = false ∧ frameStands 3 (s.appendRequest (acqFrame 3)).dlv.requests = true := by
  decide +kernel

/-- A slot PENDING with its ACQUIRE frame to station 1 standing. -/
def pendingSlot : State := (oneSlot 3 (slotRec .pending .command)).appendRequest (acqFrame 3)

/-- The same with the frame started, and with a last answer. -/
def startedSlot (x : LastAnswer) : State :=
  let s := started .request 0 pendingSlot
  s.setSend 1 { s.sendRecord 1 with lastAnswer := x }

/-- O10, O23, O50: a frame never started, one answered BUSY, one with an attempt in flight, one not answered. -/
theorem witness_frames :
    ¬ pendingSlot.frameStarted (acqFrame 3) ∧
    ((startedSlot .busy).frameStarted (acqFrame 3) ∧ ¬ (startedSlot .busy).frameInFlight (acqFrame 3) ∧
      ((startedSlot .busy).sendRecord 1).lastAnswer ≠ .none) ∧
    (attempting (acqAttempt .sending none) (startedSlot .busy)).frameInFlight (acqFrame 3) ∧
    ((startedSlot .none).frameStarted (acqFrame 3) ∧ ((startedSlot .none).sendRecord 1).lastAnswer = .none) := by
  simp only [State.frameStarted_iff, State.frameInFlight_iff]
  decide +kernel

/-- O10: a PENDING slot and its standing frame. -/
theorem witness_CancelOfPendingSlot :
    let s := pendingSlot
    s.portFree ∧ s.ctl.state = .online ∧ s.stagedLock = some 1040#12 ∧ s.slot 3 = some (slotRec .pending .command) ∧
    s.onlySlot 3 1040#12 ∧ (slotRec .pending .command).mark = false ∧
    acquireFrameOf 3 s.dlv.requests = some (acqFrame 3) ∧
    (startedSlot .busy).portFree ∧ (startedSlot .busy).slot 3 = some (slotRec .pending .command) ∧
    (startedSlot .busy).onlySlot 3 1040#12 ∧
    acquireFrameOf 3 (startedSlot .busy).dlv.requests = some (acqFrame 3) := by
  decide +kernel

/-- A station in CONFIG with a block that START accepts. -/
def ready : State := inState .config (online 2)

/-- With another block. -/
def withCfg (c : ConfigBlock) : State := ready.withCtl { ready.ctl with cfg := c }

/-- The ranges of the same map in another order of records. -/
def cfg3Reordered : ConfigBlock :=
  { cfg3 with ranges := vset (vset cfg3.ranges 0 (cfg3.ranges.get 2)) 2 (cfg3.ranges.get 0) }

/-- O12: a block that passes every check, also at the ends of the timing fields, and one that selects the same ranges
in another order. -/
theorem witness_StartEntersJoining :
    (ready.portFree ∧ ready.ctl.state = .config ∧ ready.ctl.cfg.epoch ≠ 0#16 ∧
      ready.ctl.previousEpoch ≠ some ready.ctl.cfg.epoch ∧ ready.ctl.cfg.timingOk = true) ∧
    ready.ctl.cfg.mapSound ∧
    (({ cfg3 with presenceInterval := 250#16, silenceLimit := 8#16, windowWaitLimit := 255#16 } :
      ConfigBlock).timingOk = true ∧
    ({ cfg3 with presenceInterval := 1#16, silenceLimit := 2#16, windowWaitLimit := 1#16 } :
      ConfigBlock).timingOk = true) ∧
    (cfg3.mapSound ∧ cfg3Reordered.mapSound ∧
      ∀ r : RangeRecord, (∃ k, cfg3.selects k ∧ cfg3.ranges.get k = r) ↔
        ∃ k, cfg3Reordered.selects k ∧ cfg3Reordered.ranges.get k = r) := by
  refine ⟨by decide +kernel, (ConfigBlock.mapOk_iff _).1 (by decide +kernel), by decide +kernel,
    (ConfigBlock.mapOk_iff _).1 (by decide +kernel), (ConfigBlock.mapOk_iff _).1 (by decide +kernel), ?_⟩
  intro r
  rw [← ConfigBlock.mem_selected, ← ConfigBlock.mem_selected,
    show cfg3Reordered.selected = cfg3.selected.reverse by decide +kernel, List.mem_reverse]

/-- O13: each refusal of START, and of LEAVE. -/
theorem witness_StartAndLeaveRefused :
    ((online 2).portFree ∧ ready.ctl.state ≠ .online ∧ (online 2).ctl.state ≠ .config ∧
      (withCfg { cfg3 with epoch := 0#16 }).ctl.cfg.epoch = 0#16 ∧
      (ready.withCtl { ready.ctl with previousEpoch := some 0x3A41#16 }).ctl.previousEpoch = some cfg3.epoch ∧
      ({ cfg3 with presenceInterval := 251#16 } : ConfigBlock).timingOk = false ∧
      ({ cfg3 with silenceLimit := 9#16 } : ConfigBlock).timingOk = false ∧
      ({ cfg3 with windowWaitLimit := 256#16 } : ConfigBlock).timingOk = false ∧
      ({ cfg3 with rangeCount := 9#16 } : ConfigBlock).timingOk = true) ∧
    ¬ ({ cfg3 with rangeCount := 9#16 } : ConfigBlock).mapSound ∧
    ¬ ({ cfg3 with rangeCount := 0#16 } : ConfigBlock).mapSound := by
  rw [← ConfigBlock.mapOk_iff, ← ConfigBlock.mapOk_iff]
  decide +kernel

/-- O14: LEAVE with an open COMMAND slot, a WINDOW slot not granted, and a DONE slot. -/
theorem witness_LeaveEntersLeaving :
    let s := ((oneSlot 3 (heldRec .held .command)).setSlot 4 (some (slotRec .waiting .window))).setSlot 5
      (some (slotRec .done .command))
    s.portFree ∧ s.ctl.state = .online ∧ s.slot 3 = some (heldRec .held .command) ∧
    (heldRec .held .command).isOpen = true ∧ s.slot 4 = some (slotRec .waiting .window) ∧
    (slotRec .waiting .window).recordsPending = 0 ∧ s.slot 5 = some (slotRec .done .command) ∧ s.slot 6 = none := by
  decide +kernel

/-- A completion record of slot 3. -/
def record3 : CompletionRecord :=
  (slotRec .done .command).toRecord 3 .released (.released .ok) 7#16 []

/-- O15, O16: an empty queue, and a head record of a DONE slot. -/
theorem witness_PopTakesHead :
    (online 2).portFree ∧ (online 2).req.completions = [] ∧
    (let s := (oneSlot 3 { slotRec .done .command with recordsPending := 1 }).postRecords [record3]
     s.portFree ∧ s.req.completions = [record3] ∧
       s.slot record3.slot = some { slotRec .done .command with recordsPending := 1 }) := by
  decide +kernel

/-- O17 to O19: a free port in CONFIG and outside it, addresses at the ends of every range the statements
name, and a cycle with both strobes. -/
theorem witness_registerWrites :
    (ready.portFree ∧ ready.ctl.state = .config) ∧ ((online 2).portFree ∧ (online 2).ctl.state ≠ .config) ∧
    [(0x008#14 : PortAddr), 0x00C#14, 0x010#14, 0x027#14].all (fun a => decide
      ((0x008 ≤ a.toNat ∧ a.toNat ≤ 0x00C) ∨ (0x010 ≤ a.toNat ∧ a.toNat ≤ 0x027))) = true ∧
    [(0x030#14 : PortAddr), 0x03D#14].all (fun a => decide (0x030 ≤ a.toNat ∧ a.toNat ≤ 0x03D)) = true ∧
    [(0x003#14 : PortAddr), 0x007#14, 0x00D#14, 0x00F#14, 0x028#14, 0x02F#14, 0x03F#14, 0x04B#14, 0x04D#14,
        0x04F#14, 0x051#14, 0x2FFF#14].all (fun a => decide
      ((0x003 ≤ a.toNat ∧ a.toNat ≤ 0x007) ∨ (0x00D ≤ a.toNat ∧ a.toNat ≤ 0x00F) ∨
        (0x028 ≤ a.toNat ∧ a.toNat ≤ 0x02F) ∨ (0x03F ≤ a.toNat ∧ a.toNat ≤ 0x04B) ∨
        (0x04D ≤ a.toNat ∧ a.toNat ≤ 0x04F) ∨ (0x051 ≤ a.toNat ∧ a.toNat ≤ 0x2FFF))) = true ∧
    (0x03E#14).toNat = 0x03E ∧ 5 < (6#16).toNat ∧
    ∃ p : PortPins, p.sel = true ∧ p.rd = true ∧ p.wr = true := by
  refine ⟨by decide +kernel, by decide +kernel, by decide +kernel, by decide +kernel, by decide +kernel, by decide, by decide,
    ⟨true, true, true, 0#14, 0#16⟩, rfl, rfl, rfl⟩

/-- O20, O21: a window read that opens a slot, and each refusal of one. -/
theorem witness_windowReads :
    ((online 2).portFree ∧ (online 2).ctl.state = .online ∧ homeOf (online 2).ctl.activeMap 1040#12 = some 1 ∧
      (online 2).lockUnused 1040#12 ∧ (online 2).homeUsable 1 ∧ (online 2).isLowestFree 0) ∧
    ready.ctl.state ≠ .online ∧ homeOf State.reset.ctl.activeMap 1040#12 = none ∧
    ¬ (oneSlot 0 (slotRec .waiting .window)).lockUnused 1040#12 ∧
    ¬ (withPeer 1 .absent (online 2)).homeUsable 1 ∧ (∀ u : Tag, full.slot u ≠ none) := by
  decide +kernel

/-- O22: a HELD slot for the offset, and none. -/
theorem witness_ReleaseWindowWrite :
    (let s := oneSlot 3 (heldRec .held .window)
     s.portFree ∧ s.ctl.state = .online ∧ s.slot 3 = some (heldRec .held .window) ∧ s.onlySlot 3 1040#12) ∧
    (∀ u : Tag, (oneSlot 3 (slotRec .waiting .window)).slotIs u
      (fun r => decide (r.lock ≠ 1040#12 ∨ r.state ≠ .held)) = true) := by
  decide +kernel

/-- O5, O23, O24: stalled reads of a WAITING slot, of a PENDING one, and none; a stalled state that satisfies the
invariant. -/
theorem witness_stalledReads :
    (let s := stalled 3 (oneSlot 3 (slotRec .waiting .window))
     s.working ∧ s.port.window = .stalled 3 20 ∧ s.slot 3 = some (slotRec .waiting .window) ∧
       frameStands 3 s.dlv.requests = false) ∧
    (let s := stalled 3 ((oneSlot 3 (slotRec .pending .window)).appendRequest (acqFrame 3))
     s.slot 3 = some (slotRec .pending .window) ∧ (slotRec .pending .window).recordsPending = 0 ∧
       acquireFrameOf 3 s.dlv.requests = some (acqFrame 3) ∧ s.requestIsStarted (acqFrame 3) = false ∧
       ¬ s.portFree ∧ LifeInv s) ∧
    (online 2).port.window = .idle := by
  decide +kernel

/-- An ACQUIRE of lock 3000 by station 1, tag 4. -/
def acq14 (m : LockMode) (w : WaitKind) : RequestBody := .acquire 3000#12 4 m w

/-- A table of 256 entries, none of them of lock 3000. -/
def fullTable : List HomeEntry :=
  (List.range 256).map (fun n => { entry .free [] [] with lock := BitVec.ofNat 12 n })

/-- An entry with 128 waiters. -/
def fullPool : HomeEntry :=
  entry .exclusive [{ station := 3, tag := 0 }] (List.replicate 128 { station := 0, tag := 0, mode := .exclusive })

/-- O25: an ACQUIRE granted at a new entry, a FREE one and a SHARED one. -/
theorem witness_AcquireAtHomeGrants :
    (let s := serving [] 1 (acq14 .exclusive .queue) (online 2)
     s.serviceReady ∧ homeOf s.ctl.activeMap 3000#12 = some s.own ∧
       s.home.inbound = [{ source := 1, body := acq14 .exclusive .queue }] ∧
       findEntry s.home.table 3000#12 = none ∧ s.home.table.length < 256) ∧
    (let s := serving [entry .free [] []] 1 (acq14 .exclusive .queue) (online 2)
     s.serviceReady ∧ findEntry s.home.table 3000#12 = some (entry .free [] []) ∧
       (entry .free [] []).involves 1 = false) ∧
    (let e := entry .shared [{ station := 3, tag := 0 }] []
     let s := serving [e] 1 (acq14 .shared .queue) (online 2)
     s.serviceReady ∧ findEntry s.home.table 3000#12 = some e ∧ e.involves 1 = false ∧ e.waiters = []) := by
  decide +kernel

/-- O26: each denial, and a waiter queued. -/
theorem witness_AcquireAtHomeDeniesOrQueues :
    homeOf (online 3).ctl.activeMap 3000#12 ≠ some (online 3).own ∧
    (findEntry fullTable 3000#12 = none ∧ 256 ≤ fullTable.length) ∧
    (let e := entry .exclusive [{ station := 1, tag := 0 }] []
     findEntry [e] 3000#12 = some e ∧ e.involves 1 = true) ∧
    (let e := entry .exclusive [{ station := 3, tag := 0 }] []
     let s := serving [e] 1 (acq14 .exclusive .tryOnce) (online 2)
     s.serviceReady ∧ s.home.inbound = [{ source := 1, body := acq14 .exclusive .tryOnce }] ∧
       findEntry s.home.table 3000#12 = some e ∧ e.involves 1 = false ∧ e.state ≠ .free ∧
       waitersInUse s.home.table < 128) ∧
    (findEntry [fullPool] 3000#12 = some fullPool ∧ fullPool.involves 1 = false ∧ 128 ≤ waitersInUse [fullPool]) := by
  decide +kernel

/-- O27, O28: releases of no holder, of another generation, of the EXCLUSIVE holder by a peer and by this station
itself, with and without a waiter, and of one of two SHARED holders. -/
theorem witness_releasesAtHome :
    (let s := serving [] 1 (.release 3000#12 4 8#16 false []) (online 2)
     s.serviceReady ∧ s.home.inbound = [{ source := 1, body := .release 3000#12 4 8#16 false [] }] ∧
       findEntry s.home.table 3000#12 = none) ∧
    (let e := entry .exclusive [{ station := 1, tag := 4 }] []
     findEntry [e] 3000#12 = some e ∧ (9#16 : Word) ≠ e.generation) ∧
    (let e := entry .exclusive [{ station := 2, tag := 4 }] [{ station := 1, tag := 0, mode := .shared }]
     let s := serving [e] 2 (.release 3000#12 4 8#16 true []) (online 2)
     s.serviceReady ∧ s.own = 2 ∧
       s.home.inbound = [{ source := 2, body := .release 3000#12 4 e.generation true [] }] ∧
       findEntry s.home.table 3000#12 = some e ∧
       e.holders.filter (fun h => decide (h ≠ { station := 2, tag := 4 })) = [] ∧ e.waiters ≠ []) ∧
    (let e := entry .exclusive [{ station := 1, tag := 4 }] []
     findEntry [e] 3000#12 = some e ∧ e.holders.filter (fun h => decide (h ≠ { station := 1, tag := 4 })) = [] ∧
       e.waiters = [] ∧ e.value ≠ []) ∧
    (let e := entry .shared [{ station := 1, tag := 4 }, { station := 3, tag := 0 }] []
     findEntry [e] 3000#12 = some e ∧ { station := 1, tag := 4 } ∈ e.holders ∧
       e.holders.filter (fun h => decide (h ≠ { station := 1, tag := 4 })) ≠ []) := by
  decide +kernel

/-- O29: queues headed by an EXCLUSIVE waiter and by two SHARED ones, the generation about to wrap. -/
theorem witness_RegrantAndReassessment :
    (let w : Waiter := { station := 1, tag := 4, mode := .exclusive }
     (entry .exclusive [] [w]).waiters = w :: [] ∧ w.mode = .exclusive) ∧
    (let a : Waiter := { station := 1, tag := 4, mode := .shared }
     let b : Waiter := { station := 3, tag := 4, mode := .exclusive }
     (entry .exclusive [] [a, b]).waiters = [a] ++ [b] ∧ [a] ≠ [] ∧ (∀ w ∈ [a], w.mode = .shared) ∧
       [b].head?.map Waiter.mode ≠ some .shared) ∧
    (let a : Waiter := { station := 1, tag := 4, mode := .shared }
     let e := entry .shared [{ station := 3, tag := 0 }] [a]
     e.state = .shared ∧ e.waiters = [a] ++ [] ∧ ([] : List Waiter).head?.map Waiter.mode ≠ some .shared) ∧
    (entry .exclusive [] []).state ≠ .shared ∧
    ({ entry .exclusive [] [] with generation := 0xFFFF#16 } : HomeEntry).generation = 0xFFFF#16 := by
  decide +kernel

/-- O30: a waiter, a holder with and without others, and neither. -/
theorem witness_CancelAtHomeByFinding :
    (let e := entry .exclusive [{ station := 3, tag := 0 }] [{ station := 1, tag := 4, mode := .shared }]
     let s := serving [e] 1 (.cancel 3000#12 4) (online 2)
     s.serviceReady ∧ s.home.inbound = [{ source := 1, body := .cancel 3000#12 4 }] ∧
       findEntry s.home.table 3000#12 = some e ∧ ∃ w ∈ e.waiters, w.station = 1 ∧ w.tag = 4) ∧
    findEntry ([] : List HomeEntry) 3000#12 = none ∧
    (let e := entry .exclusive [{ station := 1, tag := 4 }] [{ station := 3, tag := 4, mode := .shared }]
     findEntry [e] 3000#12 = some e ∧ (∀ w ∈ e.waiters, ¬ (w.station = 1 ∧ w.tag = 4)) ∧
       { station := 1, tag := 4 } ∈ e.holders ∧
       e.holders.filter (fun h => decide (h ≠ { station := 1, tag := 4 })) = []) ∧
    (let e := entry .shared [{ station := 1, tag := 4 }, { station := 3, tag := 0 }] []
     e.holders.filter (fun h => decide (h ≠ { station := 1, tag := 4 })) ≠ []) ∧
    (let e := entry .exclusive [{ station := 1, tag := 5 }] []
     findEntry [e] 3000#12 = some e ∧ (∀ w ∈ e.waiters, ¬ (w.station = 1 ∧ w.tag = 4)) ∧
       { station := 1, tag := 4 } ∉ e.holders) := by
  decide +kernel

/-- A walk of station 3 at a position, over a table. -/
def walking (n : Nat) (table : List HomeEntry) : State :=
  (online 2).withHome { (online 2).home with table := table, walk := some { station := 3, position := n } }

/-- O31, O33: a deliverable response, one of a peer walked, one of an absent peer; a home held back. -/
theorem witness_routing :
    ((online 2).peer 1).state = .present ∧ (1 : Station) ∉ (online 2).home.pendingPurge ∧
    (online 2).home.walk = none ∧ (1 : Station) ≠ (online 2).own ∧
    (walking 0 []).home.walk = some { station := 3, position := 0 } ∧
    ((withPeer 1 .absent (online 2)).peer 1).state ≠ .present ∧
    ¬ (walking 0 []).serviceReady ∧ ready.ctl.state ≠ .online ∧
    32 < (List.replicate 17 (0 : Nat)).length + 16 := by
  decide +kernel

/-- O31, O45: a slot for each clause about a response: WAITING of a command, PENDING and WAITING of the stalled read,
PENDING with the mark set with and without a standing frame, each state past the answer, RELEASING of either origin,
CANCELLING of each cause, and the orphans by tag, by lock and by home. -/
theorem witness_responses :
    ((slotRec .waiting .command).answerable ∧ (slotRec .pending .window).answerable) ∧
    (let s := stalled 3 (oneSlot 3 (slotRec .waiting .window))
     s.slot 3 = some (slotRec .waiting .window) ∧ s.port.window = .stalled 3 20 ∧
       (slotRec .waiting .window).answerable) ∧
    (let r := { slotRec .pending .command with mark := true }
     let s := oneSlot 3 r
     s.slot 3 = some r ∧ r.state = .pending ∧ r.mark = true ∧ frameStands 3 s.dlv.requests = false ∧
       frameStands 3 (s.appendRequest (acqFrame 3)).dlv.requests = true) ∧
    ([SlotState.held, .releasing, .cancelling, .done].all (fun x => decide (slotRec x .command).pastAnswer)) = true ∧
    (let r := heldRec .releasing .window
     (oneSlot 3 r).slot 3 = some r ∧ r.state = .releasing ∧ r.origin = .window ∧ r.hold.isSome = true) ∧
    ((heldRec .releasing .command).hold = some { generation := 7#16, value := [0xAA#8, 0xBB#8] } ∧
      (slotRec .waiting .command).state ≠ .releasing ∧ (slotRec .waiting .command).state ≠ .cancelling) ∧
    ([CancelCause.software, .timeout, .windowLimit].all (fun c =>
      decide (({ slotRec .cancelling .window with cancelCause := c } : SlotRecord).state = .cancelling))) = true ∧
    (let s := oneSlot 3 { slotRec .waiting .command with home := 2 }
     s.slot 3 = some { slotRec .waiting .command with home := 2 } ∧ s.own = 2 ∧ s.slot 4 = none ∧
       (slotRec .waiting .command).lock ≠ 1041#12 ∧ (slotRec .waiting .command).home ≠ 3) := by
  decide +kernel

/-- O32: an entry without the walked station, one it alone holds, one it holds with a waiter behind, one it waits
for; at the lowest and the highest lock ID, with and without an entry left. -/
theorem witness_WalkStepVisits :
    (let e := entry .exclusive [{ station := 1, tag := 0 }] []
     let s := walking 0 [e]
     s.working ∧ s.ctl.state = .online ∧ s.home.walk = some { station := 3, position := 0 } ∧
       s.dlv.responses.length + 16 ≤ 32 ∧ nextEntry s.home.table 0 = some e ∧ e.involves 3 = false ∧
       (nextEntry s.home.table (e.lock.toNat + 1)).isSome = false) ∧
    (let e := { entry .exclusive [{ station := 3, tag := 0 }] [] with lock := 4095#12 }
     nextEntry (walking 4095 [e]).home.table 4095 = some e ∧ (∀ y ∈ e.waiters, y.station ≠ 3) ∧
       e.holders.filter (fun y => decide (y.station ≠ 3)) = [] ∧ e.waiters = [] ∧ e.value ≠ []) ∧
    (let e := entry .exclusive [{ station := 3, tag := 0 }] [{ station := 1, tag := 0, mode := .shared }]
     (∀ y ∈ e.waiters, y.station ≠ 3) ∧ e.holders.filter (fun y => decide (y.station ≠ 3)) = [] ∧ e.waiters ≠ []) ∧
    (let x : Waiter := { station := 3, tag := 0, mode := .shared }
     let e := { entry .exclusive [{ station := 1, tag := 0 }] [x] with lock := 0#12 }
     nextEntry (walking 0 [e, entry .free [] []]).home.table 0 = some e ∧
       (nextEntry [e, entry .free [] []] 1).isSome = true ∧ x ∈ e.waiters ∧
       ∀ y ∈ e.waiters, y.station = 3 → y = x) := by
  decide +kernel

/-- The ACQUIRE frame of slot 3 to this station. -/
def ownFrame : OutRequest := { destination := 2, body := .acquire 3000#12 3 .exclusive .queue }

/-- The RELEASE and the CANCEL frame of slot 3 to this station. -/
def ownRelease : OutRequest := { destination := 2, body := .release 3000#12 3 7#16 false [] }
/-- The CANCEL frame of slot 3 to this station. -/
def ownCancel : OutRequest := { destination := 2, body := .cancel 3000#12 3 }

/-- A state with slot 3 and a frame of it to this station behind a frame to a peer. -/
def looping (r : SlotRecord) (e : OutRequest) : State :=
  ((oneSlot 3 r).appendRequest (acqFrame 5)).appendRequest e

/-- O34: a loopback frame behind a frame to a peer, of an unmarked and a marked PENDING slot, of a RELEASING one that
owes nothing, of a CANCELLING one that owes its CANCEL, of a DONE one; and a full inbound queue. -/
theorem witness_LoopbackMoves :
    (let s := looping (slotRec .pending .command) ownFrame
     s.working ∧ s.dlv.requests = [acqFrame 5] ++ ownFrame :: [] ∧ ownFrame.destination = s.own ∧
       (∀ x ∈ [acqFrame 5], x.destination ≠ s.own) ∧ s.ctl.state = .online ∧ s.home.inbound.length < 8 ∧
       s.slot 3 = some (slotRec .pending .command) ∧ ownFrame.body.isAcquire = true ∧
       (slotRec .pending .command).mark = false) ∧
    (let r := { slotRec .pending .command with mark := true }
     (looping r ownFrame).slot 3 = some r ∧ r.mark = true ∧ frameStands 3 ([acqFrame 5] ++ []) = false) ∧
    (let r := heldRec .releasing .command
     (looping r ownRelease).slot ownRelease.body.tag = some r ∧ ownRelease.destination = (looping r ownRelease).own ∧
       r.state ≠ .pending ∧ r.state ≠ .done ∧ r.owed = none) ∧
    (let r := { slotRec .cancelling .command with owed := some (.cancel 3000#12 3) }
     (looping r ownFrame).slot 3 = some r ∧ r.state ≠ .pending ∧ r.state ≠ .done ∧
       r.owed = some (.cancel 3000#12 3)) ∧
    ((looping (slotRec .done .command) ownCancel).slot ownCancel.body.tag = some (slotRec .done .command)) ∧
    8 ≤ (List.replicate 8 ({ source := 1, body := .cancel 0#12 0 } : InboundRequest)).length := by
  decide +kernel

/-! ## States for the statements about the line -/

/-- With presence-due or leave-due set. -/
def due (p l : Bool) (s : State) : State := s.withDlv { s.dlv with presenceDue := p, leaveDue := l }

/-- With a response to station 1 queued. -/
def respond (s : State) : State := s.appendResponse { destination := 1, body := .released 1040#12 3 .ok }

/-- O35: an opportunity in ONLINE with a PRESENCE due, in LEAVING with a LEAVE due and without, and none. -/
theorem witness_OpportunitySendsBroadcast :
    (due true false (online 2)).opportunityHere ∧ (due true false (online 2)).dlv.presenceDue = true ∧
    (inState .leaving (due false true (online 2))).opportunityHere ∧
    (inState .leaving (due false true (online 2))).dlv.leaveDue = true ∧
    (inState .leaving (online 2)).dlv.leaveDue = false ∧ ¬ (onLine .frame (online 2)).opportunityHere := by
  decide +kernel

/-- O36: a response ready behind one to an absent peer, a request ready with no response, and nothing ready. -/
theorem witness_OpportunityStartsFrame :
    (let s := respond ((withPeer 3 .absent (online 2)).appendResponse { destination := 3, body := .deny 0#12 0 .busy })
     s.opportunityHere ∧ s.ctl.state = .online ∧ s.dlv.presenceDue = false ∧
       s.dlv.responses = [{ destination := 3, body := .deny 0#12 0 .busy }] ++
         { destination := 1, body := .released 1040#12 3 .ok } :: [] ∧
       ¬ s.frameReady .response 3 ∧ s.frameReady .response 1 ∧ (s.sendRecord 1).started = none ∧
       ¬ (started .request 0 s).frameReady .response 1 ∧ (started .response 0 s).frameReady .response 1) ∧
    (let s := (online 2).appendRequest (acqFrame 3)
     s.dlv.responses = [] ∧ s.dlv.requests = [] ++ acqFrame 3 :: [] ∧ s.frameReady .request 1) ∧
    (online 2).dlv.requests = [] := by
  decide +kernel

/-- O37: the first and the last bit of a frame, of each kind of attempt, the eighth collision, an ignored attempt, and an
ACK with no attempt and with one sent whole. -/
theorem witness_MismatchStopsSending :
    (let a := acqAttempt .sending none
     let s := attempting a (onLine .frame (started .request 6 (online 2)))
     s.working ∧ s.bus.attempt = some a ∧ 0 < a.frame.levels.length ∧ a.frame.levels.length = 130 ∧
       129 < a.frame.levels.length ∧ a.ignored = false ∧
       (s.sendRecord 1).started = some { queue := .request, sequence := 9#8, sync := false } ∧
       (s.sendRecord 1).attempts < 7) ∧
    (0 < (bcAttempt .presence .sending).frame.levels.length ∧ (bcAttempt .leave .sending).ignored = false) ∧
    (let s := (onLine .window (online 2)).withBus { (onLine .window (online 2)).bus with
       ackSending := some (ackFrame 2 1 9#8 .accept) }
     s.bus.attempt = none ∧ s.bus.ackSending = some (ackFrame 2 1 9#8 .accept) ∧
       99 < (ackFrame 2 1 9#8 .accept).levels.length ∧
       (attempting (acqAttempt .sentWhole none) s).bus.attempt = some (acqAttempt .sentWhole none) ∧
       (acqAttempt .sentWhole none).phase ≠ .sending) ∧
    (7 ≤ ((started .request 7 (online 2)).sendRecord 1).attempts ∧
      ({ acqAttempt .sending none with ignored := true } : Attempt).ignored = true) := by
  decide +kernel

/-- O38: an own frame going out, an ACK due, START-UP, and each phase another transmission can meet. -/
theorem witness_LinePhaseEvents :
    (let s := attempting (acqAttempt .sending none) (onLine .frame (online 2))
     s.working ∧ s.bus.attempt = some (acqAttempt .sending none)) ∧
    (let s := (onLine .window (online 2)).withBus { (onLine .window (online 2)).bus with
       ackDue := some (ackFrame 2 1 9#8 .accept) }
     s.bus.ackDue = some (ackFrame 2 1 9#8 .accept) ∧ s.bus.linePhase = .window ∧ s.ctl.state = .online) ∧
    State.reset.bus.linePhase = .startUp ∧
    ((online 2).bus.ownSending = false ∧ (online 2).bus.linePhase = .cycle ∧
      (onLine .window (online 2)).bus.linePhase = .window ∧ (onLine .frame (online 2)).bus.linePhase = .frame) := by
  decide +kernel

/-- O39: neighbours, the same station, and both ends of the numbers; a window without an attempt, START-UP, and a
command within a cycle. -/
theorem witness_OwnPosition :
    ((0 : Station) = 15 + 1 ∧ (15 : Station) = 14 + 1 ∧ (7 : Station) = 7) ∧
    ((onLine .window (online 2)).windowCanClose ∧ (onLine .window (online 2)).bus.attempt = none ∧
      (onLine .window (online 2)).working) ∧
    (State.reset.bus.linePhase = .startUp ∧ State.reset.working) ∧
    (BusInv (online 2) ∧ (online 2).bus.linePhase = .cycle ∧
      exec .startupLineIdle (online 2) = .next (online 2)) :=
  ⟨by decide, by decide +kernel, by decide +kernel, by decide +kernel, by decide +kernel, rfl⟩

/-- A window open on an attempt of a started frame sent whole. -/
def answered (q : OutQueue) (answer : Option AckResult) (n : Nat) (s : State) : State :=
  attempting { acqAttempt .sentWhole answer with kind := .addressed 1 q } (onLine .window (started q n s))

/-- O40: an ACCEPT of a response, and of requests of slots PENDING, marked, owing a frame, and DONE. -/
theorem witness_WindowCloseOnAccept :
    (let s := answered .response (some .accept) 0 (respond (online 2))
     s.windowCanClose ∧
       s.bus.attempt = some { acqAttempt .sentWhole (some .accept) with kind := .addressed 1 .response } ∧
       (s.sendRecord 1).started = some { queue := .response, sequence := 9#8, sync := false } ∧
       s.dlv.responses = [] ++ { destination := 1, body := .released 1040#12 3 .ok } :: []) ∧
    (let s := answered .request (some .accept) 0 ((oneSlot 3 (slotRec .pending .command)).appendRequest (acqFrame 3))
     s.dlv.requests = [] ++ acqFrame 3 :: [] ∧ s.slot (acqFrame 3).body.tag = some (slotRec .pending .command) ∧
       (acqFrame 3).body.isAcquire = true ∧ (slotRec .pending .command).mark = false) ∧
    (let r := { slotRec .pending .command with mark := true }
     let s := (oneSlot 3 r).appendRequest (acqFrame 3)
     s.slot 3 = some r ∧ r.state = .pending ∧ frameStands 3 ([] ++ []) = false) ∧
    (let r := { heldRec .releasing .command with owed := some (.release 1040#12 3 7#16 false []) }
     let s := (oneSlot 3 r).appendRequest (acqFrame 3)
     s.slot 3 = some r ∧ r.state ≠ .pending ∧ r.state ≠ .done ∧
       r.owed = some (.release 1040#12 3 7#16 false [])) ∧
    ((slotRec .waiting .command).owed = none ∧ (slotRec .done .command).state = .done ∧
      (oneSlot 3 (slotRec .done .command)).slot (acqFrame 3).body.tag = some (slotRec .done .command)) := by
  decide +kernel

/-- O41: no window, a transmission in progress in one, no attempt, an ignored one, broadcasts, each answer that leaves
the frame standing, and an answer to the ACQUIRE frame of a marked slot, by each cause. -/
theorem witness_WindowCloseOtherwise :
    (online 2).bus.linePhase ≠ .window ∧ (onLine .window (online 2)).bus.attempt = none ∧
    ((onLine .window (online 2)).withBus { (onLine .window (online 2)).bus with
      windowTransmission := true }).bus.windowTransmission = true ∧
    (let a := { acqAttempt .sentWhole none with ignored := true }
     (attempting a (onLine .window (online 2))).bus.attempt = some a ∧ a.ignored = true) ∧
    ((bcAttempt .presence .sentWhole).phase = .sentWhole ∧ (bcAttempt .leave .collision).phase = .collision ∧
      (bcAttempt .leave .sentWhole).kind = .leave) ∧
    (let s := answered .request (some .busy) 0 ((oneSlot 3 (slotRec .pending .command)).appendRequest (acqFrame 3))
     s.windowCanClose ∧ (s.sendRecord 1).started = some { queue := .request, sequence := 9#8, sync := false } ∧
       oldestRequestTo 1 s.dlv.requests = some (acqFrame 3) ∧
       s.slotIs 3 (fun r => decide (¬ (r.state = .pending ∧ r.mark = true))) = true) ∧
    ((acqAttempt .sentWhole (some .unheard)).answer = some .unheard ∧
      ((answered .request none 6 (online 2)).sendRecord 1).attempts < 7) ∧
    ([CancelCause.software, .timeout, .windowLimit].all (fun c =>
      let r := { slotRec .pending .command with mark := true, cancelCause := c }
      let s := answered .request (some .unheard) 0 ((oneSlot 3 r).appendRequest (acqFrame 3))
      decide (s.windowCanClose ∧ oldestRequestTo 1 s.dlv.requests = some (acqFrame 3) ∧
        acquireFrameOf 3 s.dlv.requests = some (acqFrame 3) ∧ s.slot 3 = some r ∧ r.state = .pending ∧
        r.mark = true ∧ s.ctl.state ≠ .leaving ∧ r.cancelCause = c))) = true := by
  decide +kernel

/-- O42: a REJECT, and the eighth attempt unanswered. -/
theorem witness_WindowClosePurges :
    (let s := answered .request (some .reject) 0 (online 2)
     s.windowCanClose ∧ s.bus.attempt = some (acqAttempt .sentWhole (some .reject)) ∧
       (s.sendRecord 1).started = some { queue := .request, sequence := 9#8, sync := false }) ∧
    (let s := answered .request none 7 (online 2)
     s.bus.attempt = some (acqAttempt .sentWhole none) ∧ 7 ≤ (s.sendRecord 1).attempts) := by
  decide +kernel

/-! ## Received frames -/

/-- A request of station 1 to station 2. -/
def reqFrame (sync : Bool) : Frame :=
  addressedFrame 1 2 9#8 sync (.request (.acquire 3000#12 4 .exclusive .queue))

/-- A response of station 1 to station 2. -/
def respFrame (b : ResponseBody) : Frame := addressedFrame 1 2 9#8 false (.response b)

/-- With sync-in set for station 1. -/
def awaiting (s : State) : State := s.setPeer 1 { peerIn .present with syncIn := true }

/-- With a receive record of the frame above. -/
def received (s : State) : State := s.setReceive 1 (some { sequence := 9#8, sync := false })

/-- A frame with the number of the station under test as its source. -/
def twin (f : Frame) : Frame := { f with source := 2 }

/-- O43, O45, O46, O47: the stations that do not answer a frame, for a frame of the own number and one of a peer. -/
theorem witness_unanswered :
    (ready.canReceive ∧ ready.ctl.state = .config ∧ (inState .joining (online 2)).canReceive ∧
      (inState .joining (online 2)).ctl.state = .joining ∧ (inState .leaving (online 2)).canReceive) ∧
    (online 2).own = 2 ∧ ready.own = 2 ∧ (inState .joining (online 2)).own = 2 ∧
    ([reqFrame false, respFrame (.released 1040#12 3 .ok), presenceFrame 1 false 1#16 0#16 0#16,
      leaveFrame 1 1#16].all (fun f =>
        decide (f.source ≠ 2 ∧ (twin f).source = 2) && decide (checkFrame false (receptionOf f.levels) = .ok f) &&
          decide (checkFrame false (receptionOf (twin f).levels) = .ok (twin f)))) = true := by
  decide +kernel

/-- The steps of R128 that discard a frame: a sender in each state, a missing SYNC, and a repeat with and without an
awaited SYNC. -/
theorem witness_discards :
    ((withPeer 1 .unknown (online 2)).peer 1).state = .unknown ∧
    ((withPeer 1 .absent (online 2)).peer 1).state = .absent ∧
    ((withPeer 1 .mismatched (online 2)).peer 1).state = .mismatched ∧
    (((awaiting (online 2)).peer 1).state = .present ∧ ((awaiting (online 2)).peer 1).syncIn = true) ∧
    (reqFrame false).sync = false ∧ (respFrame (.released 1040#12 3 .ok)).sync = false ∧
    ((received (online 2)).peer 1).syncIn = false ∧
    (received (online 2)).receiveRecord 1 = some { sequence := (reqFrame false).sequence, sync := false } ∧
    (received (online 2)).receiveRecord 1 =
      some { sequence := (respFrame (.released 1040#12 3 .ok)).sequence, sync := false } := by
  decide +kernel

/-- O43: a request in order, with room and without, to this station and to another. -/
theorem witness_RequestReceiptAnswered :
    (let s := online 2
     s.canReceive ∧ s.ctl.state = .online ∧
       checkFrame false (receptionOf (reqFrame false).levels) = .ok (reqFrame false) ∧
       (reqFrame false).source ≠ s.own ∧ (reqFrame false).addressee = some s.own ∧ s.inOrder (reqFrame false) ∧
       s.home.inbound.length < 8) ∧
    8 ≤ ((online 2).withHome { (online 2).home with
      inbound := List.replicate 8 { source := 3, body := .cancel 0#12 0 } }).home.inbound.length ∧
    ((online 3).canReceive ∧ (reqFrame false).addressee ≠ some (online 3).own) ∧
    (awaiting (online 2)).inOrder (reqFrame true) := by
  decide +kernel

/-- O44: a SYNC frame not awaited, of a request with room in the queue the purge leaves and without it, and of a
response; and frames in LEAVING. -/
theorem witness_ReceiptResynchronises :
    (let s := online 2
     s.canReceive ∧ checkFrame false (receptionOf (reqFrame true).levels) = .ok (reqFrame true) ∧
       (s.peer 1).state = .present ∧ (s.peer 1).syncIn = false ∧ (reqFrame true).sync = true ∧
       s.receiveRecord 1 ≠ some { sequence := 9#8, sync := true } ∧
       ((s.heard 1).purge 1 .disowned).home.inbound.length < 8) ∧
    (let full := List.replicate 8 ({ source := 3, body := .cancel 0#12 0 } : InboundRequest)
     let s := (online 2).withHome { (online 2).home with inbound := full }
     8 ≤ ((s.heard 1).purge 1 .disowned).home.inbound.length) ∧
    (let f := { respFrame (.released 1040#12 3 .ok) with sync := true }
     checkFrame false (receptionOf f.levels) = .ok f ∧ f.addressee = some (online 2).own ∧ f.sync = true) ∧
    ((inState .leaving (online 2)).canReceive ∧ (reqFrame false).addressee = some (inState .leaving (online 2)).own ∧
      (reqFrame false).source ≠ (inState .leaving (online 2)).own) ∧
    checkFrame false (receptionOf (respFrame (.released 1040#12 3 .ok)).levels) =
      .ok (respFrame (.released 1040#12 3 .ok)) := by
  decide +kernel

/-- The responses O45 is about. -/
def granted : ResponseBody := .grant 1040#12 3 .exclusive 7#16 [1#8]

/-- O45: each response, in order, and one to another station; the slots it meets are those of witness_responses. -/
theorem witness_ResponseReceiptApplied :
    (let s := oneSlot 3 (slotRec .waiting .command)
     s.canReceive ∧ s.ctl.state = .online ∧
       checkFrame false (receptionOf (respFrame granted).levels) = .ok (respFrame granted) ∧
       (respFrame granted).source ≠ s.own ∧ (respFrame granted).addressee = some s.own ∧ s.inOrder (respFrame granted) ∧
       s.slot granted.tag = some (slotRec .waiting .command) ∧ (slotRec .waiting .command).lock = granted.lock ∧
       (slotRec .waiting .command).home = (respFrame granted).source) ∧
    ((online 3).canReceive ∧ (respFrame granted).source ≠ (online 3).own ∧
      (respFrame granted).addressee ≠ some (online 3).own) ∧
    checkFrame false (receptionOf (respFrame (.deny 1040#12 3 .poolFull)).levels) =
      .ok (respFrame (.deny 1040#12 3 .poolFull)) ∧
    checkFrame false (receptionOf (respFrame (.released 1040#12 3 .stale)).levels) =
      .ok (respFrame (.released 1040#12 3 .stale)) ∧
    checkFrame false (receptionOf (respFrame (.cancelled 1040#12 3 .afterGrant)).levels) =
      .ok (respFrame (.cancelled 1040#12 3 .afterGrant)) := by
  decide +kernel

/-- A PRESENCE of a station. -/
def presence (p : Station) (fresh : Bool) (digest list : Word) : Frame := presenceFrame p fresh 0x3A41#16 digest list

/-- O46: a PRESENCE of the own number, in CONFIG, in JOINING, and in ONLINE of peers in every state, with the same
digest and another, with the FRESH flag, and with a sync-wait notice. -/
theorem witness_PresenceReceiptHeard :
    (let f := presence 2 false 0x1234#16 0#16
     (online 2).canReceive ∧ checkFrame false (receptionOf f.levels) = .ok f ∧ f.source = (online 2).own ∧
       (online 2).ctl.state ≠ .joining) ∧
    (let f := presence 1 false 0x1234#16 0#16
     checkFrame false (receptionOf f.levels) = .ok f ∧ f.source ≠ (online 2).own ∧
       (0x1234#16 : Word) = (online 2).ctl.digest ∧ ((online 2).peer 1).epoch = some 0x3A41#16 ∧ f.fresh = false ∧
       ready.canReceive ∧ (inState .joining (online 2)).canReceive) ∧
    (let f := presence 1 true 0x1234#16 4#16
     checkFrame false (receptionOf f.levels) = .ok f ∧ f.fresh = true ∧
       (4#16 : Word).getLsbD (online 2).own.val = true ∧ ((online 2).peer 1).syncOut = false) ∧
    (let f := presence 1 false 0x4321#16 0#16
     checkFrame false (receptionOf f.levels) = .ok f ∧ (0x4321#16 : Word) ≠ (online 2).ctl.digest) := by
  decide +kernel

/-- O47: a LEAVE of a peer, in JOINING and of peers in every state in ONLINE. -/
theorem witness_LeaveReceiptHeard :
    (online 2).canReceive ∧ checkFrame false (receptionOf (leaveFrame 1 0x3A41#16).levels) = .ok (leaveFrame 1 0x3A41#16) ∧
    (leaveFrame 1 0x3A41#16).source ≠ (online 2).own ∧ (inState .joining (online 2)).canReceive ∧
    ((online 2).peer 1).state = .present ∧ ((withPeer 1 .unknown (online 2)).peer 1).state = .unknown ∧
    ((withPeer 1 .mismatched (online 2)).peer 1).state = .mismatched ∧
    ((withPeer 1 .absent (online 2)).peer 1).state = .absent := by
  decide +kernel

/-- O48: an ACK that answers, a first and a later one, ACKs that answer nothing by each condition, and malformed
transmissions in every phase. -/
theorem witness_AckAndMalformedReceipt :
    (let s := answered .request none 0 (online 2)
     let f := ackFrame 1 2 9#8 .busy
     s.working ∧ s.bus.ownSending = false ∧ s.bus.linePhase = .window ∧
       checkFrame true (receptionOf f.levels) = .ok f ∧ f.source ≠ s.own ∧
       s.bus.attempt = some (acqAttempt .sentWhole none) ∧
       (acqAttempt .sentWhole none).answeredBy f s.own 9#8 ∧
       (acqAttempt .sentWhole (some .accept)).answeredBy f s.own 9#8 ∧
       ¬ (acqAttempt .sentWhole none).answeredBy (ackFrame 1 3 9#8 .busy) s.own 9#8 ∧
       ¬ (acqAttempt .sentWhole none).answeredBy (ackFrame 3 2 9#8 .busy) s.own 9#8 ∧
       ¬ (acqAttempt .sentWhole none).answeredBy f s.own 8#8 ∧
       ¬ (acqAttempt .collision none).answeredBy f s.own 9#8 ∧
       ¬ (bcAttempt .presence .sentWhole).answeredBy f s.own 0#8) ∧
    (online 2).bus.attempt = none ∧ (acqAttempt .sentWhole (some .accept)).answer = some .accept ∧
    (let f := twin (ackFrame 1 2 9#8 .busy)
     checkFrame true (receptionOf f.levels) = .ok f ∧ f.source = (online 2).own) ∧
    (onLine .window (inState .joining (online 2))).bus.linePhase = .window ∧
    (checkFrame false (receptionOf brokenOff) = .error .incomplete ∧ (online 2).bus.linePhase = .cycle ∧
      (onLine .frame (online 2)).bus.linePhase = .frame) ∧
    (checkFrame true (receptionOf (reqFrame false).levels) = .error .placement ∧
      checkFrame false (receptionOf (ackFrame 1 2 9#8 .busy).levels) = .error .placement) ∧
    State.reset.bus.linePhase = .startUp := by
  decide +kernel

/-! ## Purges, timers, frames and words -/

/-- O49: a purge that begins a walk, one over an empty table, one during a walk, one absorbed by a walk of the same
station and by a pending purge, lost slots, a WINDOW slot not granted, a DONE slot, and a stalled read. -/
theorem witness_PurgeOfPeer :
    (let s := (online 2).withHome { (online 2).home with table := [entry .free [] []] }
     s.ctl.state = .online ∧ s.home.table ≠ [] ∧ s.home.walk = none ∧ s.home.pendingPurge = []) ∧
    ((online 2).home.table = [] ∧ (1 : Station) ∉ (online 2).home.pendingPurge ∧ (online 2).home.walk = none) ∧
    (let s := walking 0 [entry .free [] []]
     s.home.walk = some { station := 3, position := 0 } ∧
       Walk.goesOn { station := 3, position := 0 } s.home.table = true ∧ (3 : Station) ≠ 1) ∧
    (∃ w, (walking 0 [entry .free [] []]).home.walk = some w ∧ w.station = 3) ∧
    (1 : Station) ∈ ((online 2).withHome { (online 2).home with pendingPurge := [1] }).home.pendingPurge ∧
    (let s := oneSlot 3 (slotRec .waiting .window)
     s.slot 3 = some (slotRec .waiting .window) ∧ (slotRec .waiting .window).isOpen = true) ∧
    (let s := oneSlot 3 (slotRec .done .command)
     s.slot 3 = some (slotRec .done .command) ∧ (slotRec .done .command).home = 1 ∧
       (slotRec .done .command).isOpen = false) ∧
    (let s := stalled 3 (oneSlot 3 (heldRec .held .command))
     s.slot 3 = some (heldRec .held .command) ∧ (heldRec .held .command).home = 1 ∧
       (heldRec .held .command).isOpen = true ∧ s.port.window = .stalled 3 20) ∧
    ((oneSlot 3 { slotRec .waiting .command with home := 0 }).slot 3).map SlotRecord.home ≠ some 1 ∧
    (online 2).port.window = .idle := by
  refine ⟨by decide +kernel, by decide +kernel, by decide +kernel, ⟨_, rfl, rfl⟩, by decide +kernel, by decide +kernel,
    by decide +kernel, by decide +kernel, by decide +kernel, by decide +kernel⟩

/-- O50: timers that run and timers that do not. -/
theorem witness_TimerExpiries :
    (let r := { slotRec .waiting .command with timer := some 1 }
     (oneSlot 3 r).working ∧ (oneSlot 3 r).slot 3 = some r ∧ r.timer = some 1 ∧
       frameStands 3 (oneSlot 3 r).dlv.requests = false) ∧
    (let r := { slotRec .pending .command with timer := some 65535 }
     let s := (oneSlot 3 r).appendRequest (acqFrame 3)
     s.slot 3 = some r ∧ r.mark = false ∧ acquireFrameOf 3 s.dlv.requests = some (acqFrame 3) ∧
       s.requestIsStarted (acqFrame 3) = false) ∧
    (online 2).slotIs 3 (fun r => r.timer.isNone) = true ∧
    (((online 2).setSend 1 { SendRecord.clear 0#8 with holdOff := some 1024 }).sendRecord 1).holdOff = some 1024 ∧
    ((online 2).sendRecord 1).holdOff = none ∧ (online 2).roster.presenceTimer = some 50 ∧
    State.reset.roster.presenceTimer = none ∧ (inState .leaving (online 2)).ctl.state ≠ .online := by
  decide +kernel

/-- O51: a silence timer that runs, of peers in every state, in ONLINE and LEAVING. -/
theorem witness_SilenceTimerExpiry :
    (online 2).working ∧ (1 : Station) ≠ (online 2).own ∧ (online 2).ctl.state = .online ∧
    ((online 2).peer 1).silenceTimer = some 200 ∧ ((online 2).peer 1).state = .present ∧
    ((withPeer 1 .unknown (online 2)).peer 1).silenceTimer = some 200 ∧
    ((withPeer 1 .mismatched (online 2)).peer 1).silenceTimer = some 200 ∧
    ((withPeer 1 .absent (inState .leaving (online 2))).peer 1).silenceTimer = some 200 := by
  decide +kernel

/-- O52: a listen timer and a leaving timer that run. -/
theorem witness_ListenAndLeavingExpiry :
    (let s := inState .joining (online 2)
     let t := s.withCtl { s.ctl with listenTimer := some 200 }
     t.working ∧ t.ctl.state = .joining ∧ t.ctl.listenTimer = some 200) ∧
    (let s := inState .leaving (online 2)
     let t := s.withCtl { s.ctl with leavingTimer := some 50 }
     t.working ∧ t.ctl.state = .leaving ∧ t.ctl.leavingTimer = some 50) := by
  decide +kernel

/-- O53: a frame of each kind, the value blocks empty and full. -/
theorem witness_FrameBytesReadBack :
    ([reqFrame true, addressedFrame 1 2 0#8 false (.request (.release 4095#12 31 1#16 true (List.replicate 16 0xFF#8))),
      addressedFrame 1 2 0#8 false (.request (.cancel 0#12 0)), respFrame (.grant 0#12 0 .shared 0xFFFF#16 []),
      respFrame (.grant 0#12 31 .shared 1#16 (List.replicate 16 0#8)), respFrame (.deny 0#12 0 .duplicate),
      respFrame (.released 0#12 0 .stale), respFrame (.cancelled 0#12 0 .notFound), presence 15 true 0#16 0xFFFF#16,
      leaveFrame 0 1#16, ackFrame 15 0 0xFF#8 .unheard].all Frame.wf) = true := by
  decide +kernel

/-- O53: header bytes with the lengths 23 and 24, a first character that is not the delimiter, a character that does
not follow, and one whose stop bit is dominant, the first character among them. -/
theorem witness_incompleteTransmissions :
    (let bytes := [0#8, 0#8, 0#8, 0#8, 23#8] ++ List.replicate 25 0#8
     5 ≤ bytes.length ∧ (bytes.getD 4 0#8).toNat ≤ 23 ∧ bytes.length = 7 + (bytes.getD 4 0#8).toNat) ∧
    (23 < ([0#8, 0#8, 0#8, 0#8, 24#8].getD 4 0#8).toNat ∧ (0x54#8 : Byte) ≠ 0x55#8) ∧
    (([] : List Byte).length < 5 ∧ [0#8, 0#8, 0#8, 0#8, 0#8].length < 7 + ([0#8, 0#8, 0#8, 0#8, 0#8].getD 4 0#8).toNat) ∧
    ([false] : Levels).head? ≠ some true ∧ (List.replicate 10 true : Levels)[9]? ≠ some false := by
  decide +kernel

/-- O54: an empty completion queue and a head record, an entry probed with waiters and holders and one with none, no
entry, a probe word beyond the lock IDs, a FREE slot and one that is not, and the first and last words that read 0. -/
theorem witness_PortWords :
    (online 2).portFree ∧ (online 2).req.completions = [] ∧
    ((oneSlot 3 (slotRec .done .command)).postRecords [record3]).req.completions = record3 :: [] ∧
    record3.value.length ≤ 16 ∧
    (let w : Waiter := { station := 1, tag := 4, mode := .exclusive }
     let e := entry .exclusive [{ station := 3, tag := 0 }] [w]
     let s := (online 2).withHome { (online 2).home with table := [e] }
     findEntry (s.withPort { s.port with probeLock := 3000#16 }).home.table 3000#12 = some e ∧ e.waiters = w :: [] ∧
       e.waiters.length ≤ 15 ∧ (3000#16 : Word).toNat ≤ 4095) ∧
    ((entry .free [] []).waiters = [] ∧ findEntry (online 2).home.table 0#12 = none ∧ 4095 < (4096#16 : Word).toNat) ∧
    (online 2).slot 31 = none ∧
    (oneSlot 3 (slotRec .waiting .command)).slot 3 = some (slotRec .waiting .command) ∧
    (let s := withCfg cfg3
     ([0x03E#14, 0x04C#14, 0x04F#14, 0x005#14, 0x007#14, 0x00D#14, 0x00F#14, 0x029#14, 0x02F#14, 0x05D#14, 0x05F#14,
       0x09A#14, 0xFFF#14, 0x3000#14, 0x3FFF#14].all (fun a => s.wordAt a == 0#16)) = true ∧
      s.wordAt 0x00C#14 ≠ 0#16) := by
  decide +kernel

/-- A station with a PENDING slot and its frame. -/
def busy : State := (oneSlot 3 (slotRec .pending .command)).appendRequest (acqFrame 3)

/-- O56 to O60: the invariants hold in that state, and a step answers a next state. -/
theorem witness_invariants :
    (HomeInv busy ∧ busy.dlv.responses.length ≤ 32) ∧ RecordInv busy ∧ FrameInv busy ∧ LifeInv busy ∧ BusInv busy ∧
      PeerInv busy :=
  ⟨by decide +kernel, by decide +kernel, by decide +kernel, by decide +kernel, by decide +kernel, by decide +kernel⟩

/-- A step answers a next state. -/
theorem witness_step : ∃ t, step busy = .next t := ⟨_, rfl⟩

/-! ## A few commands -/

/-- After START a peer reads 0003h and the own number E000h (R152, R182). -/
theorem test_roster_after_start :
    ((State.startSucceeds ready).wordAt 0x080#14, (State.startSucceeds ready).wordAt 0x082#14) =
      (0x0003#16, 0xE000#16) := by
  decide +kernel

/-- A window read refused because the station is not ONLINE reads 8200h (section 11.3). -/
theorem test_window_refused : (ready.acquireByWindow .exclusive 1040#12).port.dataOut = some 0x8200#16 := by
  decide +kernel

/-- A GRANTED command record at the head of the queue (section 11.2). -/
theorem test_completion_head :
    let s := (online 2).postRecords [(heldRec .held .command).toRecord 3 .granted .none 7#16 [0xAA#8, 0xBB#8]]
    (List.range 5).map (fun i => s.completionHeadWord i) =
      [0x0100#16, 0x1103#16, 0x0410#16, 0x0007#16, 0xAABB#16] := by
  decide +kernel

/-- A window stays open while a transmission that began inside it is in progress, and closes once it is received. -/
theorem test_window_waits :
    let s := answered .request none 0 (online 2)
    let u := s.othersBegin
    let t := u.receive (receptionOf (ackFrame 1 2 9#8 .busy).levels)
    u.windowCloses = u ∧ t.bus.windowTransmission = false ∧ t.windowCloses.bus.linePhase = .cycle := by
  decide +kernel

/-- A dominant stop bit, a start bit that does not follow, or another first character makes a transmission incomplete
(R99). -/
theorem test_incomplete_transmissions :
    receptionOf ((reqFrame true).levels.set 29 true) = .incomplete ∧
    receptionOf ((reqFrame true).levels.set 20 false) = .incomplete ∧
    receptionOf ((reqFrame true).levels.set 1 false) = .incomplete := by
  decide +kernel

/-- A read drives the word at its address; while a read is stalled, or RST- is asserted, no cycle drives any. -/
theorem test_cycles :
    ((online 2).takeCycle (.read 0x000#14)).port.dataOut = some 0x1640#16 ∧
    ((stalled 3 (online 2)).takeCycle (.read 0x000#14)).port.dataOut = none ∧
    ((held (online 2)).takeCycle (.read 0x000#14)).port.dataOut = none := by
  decide +kernel

/-- No word of the table spells a command, so fetching one leaves the state. -/
theorem test_no_table_word : decodeTableWord 16 1 = none ∧ State.reset.withFetchWord 16 1 = State.reset := by
  exact ⟨rfl, rfl⟩

end Sys2Proof.Tests.Slice0
end

/-! # The laws of the home table (R12 to R18, R23 to R32, R35)

Every operation on the table is a storing or freeing of one entry. This part says what that does to the table's laws,
what each change of one entry does to the entry's laws, and so what each home step leaves. -/

namespace Sys2Proof.Machine

/-! ## Storing and freeing an entry -/

/-- The entries of a lawful table are lawful. -/
theorem lawful_of_mem {table : List HomeEntry} {e : HomeEntry} (law : tableLawful table) (he : e ∈ table) :
    e.lawful := by
  obtain ⟨_, _, _, entries⟩ := law
  exact entries e he

/-- A stored entry takes the place of the entry of its lock. -/
theorem putEntry_replaces (e x : HomeEntry) (table : List HomeEntry)
    (asc : (table.map (fun y => y.lock.toNat)).Pairwise (· < ·)) (hx : x ∈ table) (hl : e.lock = x.lock) :
    ∃ before after, table = before ++ x :: after ∧ putEntry e table = before ++ e :: after := by
  induction table with
  | nil => simp at hx
  | cons y ys ih =>
    rw [List.map_cons, List.pairwise_cons] at asc
    obtain ⟨first, rest⟩ := asc
    rcases List.mem_cons.mp hx with rfl | hx
    · exact ⟨[], ys, rfl, by simp [putEntry, hl]⟩
    · have below : y.lock.toNat < x.lock.toNat := first _ (List.mem_map_of_mem hx)
      have passes : putEntry e (y :: ys) = y :: putEntry e ys := by
        have other : e.lock ≠ y.lock := by rintro same; rw [← same, hl] at below; omega
        rw [putEntry, if_neg (by rw [hl]; omega), if_neg other]
      obtain ⟨before, after, whole, stored⟩ := ih rest hx
      exact ⟨y :: before, after, by rw [whole, List.cons_append], by rw [passes, stored, List.cons_append]⟩

/-- An entry of a lock that had none is added. -/
theorem putEntry_adds (e : HomeEntry) (table : List HomeEntry) (new : findEntry table e.lock = none) :
    ∃ before after, table = before ++ after ∧ putEntry e table = before ++ e :: after := by
  induction table with
  | nil => exact ⟨[], [], rfl, rfl⟩
  | cons y ys ih =>
    simp only [findEntry, List.find?_cons] at new
    split at new
    · simp at new
    · next other =>
      obtain ⟨before, after, whole, stored⟩ := ih new
      by_cases below : e.lock.toNat < y.lock.toNat
      · exact ⟨[], y :: ys, rfl, by simp [putEntry, below]⟩
      · have differs : e.lock ≠ y.lock := fun same => by simp [same] at other
        refine ⟨y :: before, after, by rw [whole, List.cons_append], ?_⟩
        rw [putEntry, if_neg below, if_neg differs, stored, List.cons_append]

/-- An entry of the table after a store is the one stored or was there before. -/
theorem mem_putEntry (e x : HomeEntry) (table : List HomeEntry) (h : x ∈ putEntry e table) : x = e ∨ x ∈ table := by
  induction table with
  | nil => simpa [putEntry] using h
  | cons y ys ih =>
    unfold putEntry at h
    split at h
    · simpa using h
    · split at h
      · rcases List.mem_cons.mp h with same | old
        · exact .inl same
        · exact .inr (List.mem_cons_of_mem _ old)
      · rcases List.mem_cons.mp h with same | old
        · exact .inr (by simp [same])
        · exact (ih old).imp_right (List.mem_cons_of_mem _)

/-- A store keeps the ascending order of the lock IDs. -/
theorem putEntry_ascending (e : HomeEntry) (table : List HomeEntry)
    (asc : (table.map (fun y => y.lock.toNat)).Pairwise (· < ·)) :
    ((putEntry e table).map (fun y => y.lock.toNat)).Pairwise (· < ·) := by
  induction table with
  | nil => simp [putEntry]
  | cons y ys ih =>
    have all := asc
    rw [List.map_cons, List.pairwise_cons] at asc
    obtain ⟨first, rest⟩ := asc
    have ahead : ∀ x ∈ ys, y.lock.toNat < x.lock.toNat := fun x hx => first _ (List.mem_map_of_mem hx)
    unfold putEntry
    split
    · next below =>
      rw [List.map_cons, List.pairwise_cons]
      refine ⟨?_, all⟩
      simp only [List.map_cons, List.mem_cons, List.mem_map]
      rintro _ (rfl | ⟨x, hx, rfl⟩)
      · exact below
      · exact below.trans (ahead x hx)
    · split
      · next same => simpa [same] using all
      · next notBelow other =>
        rw [List.map_cons, List.pairwise_cons]
        refine ⟨?_, ih rest⟩
        simp only [List.mem_map]
        rintro _ ⟨x, hx, rfl⟩
        rcases mem_putEntry e x ys hx with rfl | old
        · have : x.lock.toNat ≠ y.lock.toNat := fun same => other (BitVec.eq_of_toNat_eq same)
          omega
        · exact ahead x old

/-- A lawful entry in the place of another of its lock keeps the table lawful, if the waiter pool holds its queue. -/
theorem tableLawful_replace (e x : HomeEntry) (table : List HomeEntry) (law : tableLawful table) (hx : x ∈ table)
    (hl : e.lock = x.lock) (he : e.lawful)
    (pool : waitersInUse table + e.waiters.length ≤ Config.waiterRecords + x.waiters.length) :
    tableLawful (putEntry e table) := by
  obtain ⟨asc, size, _, entries⟩ := law
  obtain ⟨before, after, whole, stored⟩ := putEntry_replaces e x table asc hx hl
  refine ⟨putEntry_ascending e table asc, ?_, ?_, ?_⟩
  · rw [whole] at size
    simpa [stored] using size
  · rw [whole] at pool
    rw [stored]
    simp only [waitersInUse, List.map_append, List.map_cons, List.sum_append, List.sum_cons] at pool ⊢
    omega
  · intro y hy
    rcases mem_putEntry e y table hy with rfl | old
    · exact he
    · exact entries y old

/-- A lawful entry with no waiter, added while one is free, keeps the table lawful. -/
theorem tableLawful_add (e : HomeEntry) (table : List HomeEntry) (law : tableLawful table)
    (new : findEntry table e.lock = none) (room : table.length < Config.homeEntries) (he : e.lawful)
    (hw : e.waiters = []) : tableLawful (putEntry e table) := by
  obtain ⟨asc, _, pool, entries⟩ := law
  obtain ⟨before, after, whole, stored⟩ := putEntry_adds e table new
  refine ⟨putEntry_ascending e table asc, ?_, ?_, ?_⟩
  · rw [whole] at room
    simp only [List.length_append] at room
    simp only [stored, List.length_append, List.length_cons]
    omega
  · rw [whole] at pool
    rw [stored]
    simpa [waitersInUse, hw] using pool
  · intro y hy
    rcases mem_putEntry e y table hy with rfl | old
    · exact he
    · exact entries y old

/-- Freeing an entry keeps the table lawful. -/
theorem tableLawful_remove (l : LockId) (table : List HomeEntry) (law : tableLawful table) :
    tableLawful (removeEntry l table) := by
  obtain ⟨asc, size, pool, entries⟩ := law
  have part : (removeEntry l table).Sublist table := List.filter_sublist
  exact ⟨asc.sublist (part.map _), part.length_le.trans size,
    ((part.map _).sum_le_sum fun _ _ => Nat.zero_le _).trans pool, fun y hy => entries y (part.subset hy)⟩

/-- Storing what a step left of an entry keeps the table lawful, when it is nothing or a lawful entry of the same lock
with no longer queue. -/
theorem tableLawful_store (x : HomeEntry) (r : Option HomeEntry) (table : List HomeEntry) (law : tableLawful table)
    (hx : x ∈ table)
    (hr : ∀ e, r = some e → e.lawful ∧ e.lock = x.lock ∧ e.waiters.length ≤ x.waiters.length) :
    tableLawful (storeEntry x.lock r table) := by
  cases r with
  | none => exact tableLawful_remove x.lock table law
  | some e =>
    obtain ⟨he, hl, queue⟩ := hr e rfl
    obtain ⟨_, _, pool, _⟩ := id law
    exact tableLawful_replace e x table law hx hl he (by omega)

/-! ## The stations of an entry -/

/-- No station stands twice in a lawful entry (R12). -/
theorem HomeEntry.different_of_lawful {e : HomeEntry} (law : e.lawful) : e.stations.Nodup := law.1

/-- The value block of a lawful entry fits (R11). -/
theorem HomeEntry.value_of_lawful {e : HomeEntry} (law : e.lawful) : e.value.length ≤ Config.valueBytes := by
  obtain ⟨_, _, _, _, _, _, _, value⟩ := law
  exact value

/-- Sixteen stations at most hold or await a lock. -/
theorem HomeEntry.length_stations_le {e : HomeEntry} (law : e.lawful) :
    e.holders.length + e.waiters.length ≤ 16 := by
  simpa [HomeEntry.stations] using (HomeEntry.different_of_lawful law).length_le_card

/-- A holder that joins makes one member more of the set, wherever it stands. -/
theorem insertHolder_perm (h : Holder) (hs : List Holder) : (insertHolder h hs).Perm (h :: hs) := by
  induction hs with
  | nil => exact .refl _
  | cons x xs ih =>
    unfold insertHolder
    split
    · exact .refl _
    · exact (ih.cons x).trans (.swap h x xs)

/-- Waiters that join make that many members more. -/
theorem addHolders_perm (ws : List Waiter) (hs : List Holder) :
    (addHolders ws hs).Perm (ws.map Waiter.toHolder ++ hs) := by
  induction ws generalizing hs with
  | nil => exact .refl _
  | cons w ws ih =>
    have joined : (addHolders ws (insertHolder w.toHolder hs)).Perm (ws.map Waiter.toHolder ++ w.toHolder :: hs) :=
      (ih _).trans ((insertHolder_perm _ _).append_left _)
    exact joined.trans List.perm_middle

/-- A holder of a new station joins in the canonical order (log 22). -/
theorem insertHolder_ascending (h : Holder) (hs : List Holder)
    (asc : (hs.map (fun x => x.station.val)).Pairwise (· < ·)) (new : h.station ∉ hs.map Holder.station) :
    ((insertHolder h hs).map (fun x => x.station.val)).Pairwise (· < ·) := by
  induction hs with
  | nil => simp [insertHolder]
  | cons x xs ih =>
    have all := asc
    rw [List.map_cons, List.pairwise_cons] at asc
    obtain ⟨first, rest⟩ := asc
    rw [List.map_cons, List.mem_cons, not_or] at new
    obtain ⟨other, new⟩ := new
    have ahead : ∀ y ∈ xs, x.station.val < y.station.val := fun y hy => first _ (List.mem_map_of_mem hy)
    unfold insertHolder
    split
    · next below =>
      rw [List.map_cons, List.pairwise_cons]
      refine ⟨?_, all⟩
      simp only [List.map_cons, List.mem_cons, List.mem_map]
      rintro _ (rfl | ⟨y, hy, rfl⟩)
      · exact below
      · exact below.trans (ahead y hy)
    · next notBelow =>
      rw [List.map_cons, List.pairwise_cons]
      refine ⟨?_, ih rest new⟩
      simp only [List.mem_map]
      rintro _ ⟨y, hy, rfl⟩
      rcases (mem_insertHolder h y xs).mp hy with rfl | old
      · have : y.station.val ≠ x.station.val := fun same => other (Fin.ext same)
        omega
      · exact ahead y old

/-- Waiters of new, different stations join in the canonical order. -/
theorem addHolders_ascending (ws : List Waiter) (hs : List Holder)
    (asc : (hs.map (fun x => x.station.val)).Pairwise (· < ·))
    (new : (hs.map Holder.station ++ ws.map Waiter.station).Nodup) :
    ((addHolders ws hs).map (fun x => x.station.val)).Pairwise (· < ·) := by
  induction ws generalizing hs with
  | nil => exact asc
  | cons w ws ih =>
    have perm : ((insertHolder w.toHolder hs).map Holder.station ++ ws.map Waiter.station).Perm
        (hs.map Holder.station ++ (w :: ws).map Waiter.station) :=
      (((insertHolder_perm _ _).map _).append_right _).trans List.perm_middle.symm
    have outside : w.toHolder.station ∉ hs.map Holder.station := fun inside =>
      (List.nodup_append.mp new).2.2 _ inside _ (by simp [Waiter.toHolder]) rfl
    exact ih _ (insertHolder_ascending _ _ asc outside) (perm.nodup_iff.mpr new)

end Sys2Proof.Machine

namespace Sys2Proof.Machine

/-! ## Lawful entries (R12 to R16) -/

/-- The generation after an advance is not 0 (R16). -/
theorem nextGeneration_ne_zero (g : Word) : nextGeneration g ≠ 0#16 := by
  unfold nextGeneration
  split
  · decide
  · next below => exact fun zero => below (by bv_omega)

/-- An entry with one holder is lawful in the holder's mode, if the rest of it is. -/
theorem HomeEntry.lawful_of_soleHolder (e : HomeEntry) (h : Holder) (m : LockMode) (hh : e.holders = [h])
    (hs : e.state = m.lockState) (different : e.stations.Nodup)
    (head : m = .shared → e.waiters.head?.map Waiter.mode ≠ some .shared) (gen : e.generation ≠ 0#16)
    (value : e.value.length ≤ Config.valueBytes) : e.lawful := by
  refine ⟨different, by simp [hh], ?_, by simp [hh], by simp [hh], ?_, gen, value⟩
  · cases m <;> simp [hh, hs, LockMode.lockState]
  · cases m
    · simp [hs, LockMode.lockState]
    · exact fun _ => head rfl

/-- An entry that waiters wanting SHARED have joined is lawful, if an EXCLUSIVE one or none is next in its queue. -/
theorem HomeEntry.lawful_of_joined (e : HomeEntry) (batch : List Waiter) (hs : List Holder)
    (hh : e.holders = addHolders batch hs) (held : e.holders ≠ []) (shared : e.state = .shared)
    (asc : (hs.map (fun x => x.station.val)).Pairwise (· < ·))
    (different : (hs.map Holder.station ++ (batch ++ e.waiters).map Waiter.station).Nodup)
    (head : e.waiters.head?.map Waiter.mode ≠ some .shared) (gen : e.generation ≠ 0#16)
    (value : e.value.length ≤ Config.valueBytes) : e.lawful := by
  rw [List.map_append, ← List.append_assoc] at different
  have perm : e.stations.Perm (hs.map Holder.station ++ batch.map Waiter.station ++ e.waiters.map Waiter.station) := by
    have members : (e.holders.map Holder.station).Perm (hs.map Holder.station ++ batch.map Waiter.station) := by
      rw [hh]
      refine ((addHolders_perm batch hs).map _).trans ?_
      rw [List.map_append, List.map_map]
      exact List.perm_append_comm
    exact members.append_right _
  refine ⟨perm.nodup_iff.mpr different, ?_, by simp [shared, held], by simp [shared],
    fun empty => absurd empty held, fun _ => head, gen, value⟩
  rw [hh]
  exact addHolders_ascending batch hs asc different.of_append_left

/-- Past the SHARED waiters at the head of a queue the next one, if any, wants EXCLUSIVE. -/
theorem head_dropWhile_wantsShared (ws : List Waiter) :
    (ws.dropWhile Waiter.wantsShared).head?.map Waiter.mode ≠ some .shared := by
  have next := List.head?_dropWhile_not Waiter.wantsShared ws
  cases hd : (ws.dropWhile Waiter.wantsShared).head? with
  | none => simp
  | some w => simpa [hd, Waiter.wantsShared] using next

/-! ## What a step leaves of an entry -/

/-- What is left of an entry is nothing, or a lawful entry of its lock with no longer queue, and the GRANTs are no more
than its waiters. -/
def leavesLawful (x : HomeEntry) (r : Option HomeEntry × List OutResponse) : Prop :=
  (∀ e, r.1 = some e → e.lawful ∧ e.lock = x.lock ∧ e.waiters.length ≤ x.waiters.length) ∧
    r.2.length ≤ x.waiters.length

/-- The entry after a regrant to an EXCLUSIVE head (R28). -/
def HomeEntry.grantedHead (e : HomeEntry) (w : Waiter) (rest : List Waiter) : HomeEntry :=
  { e with
    state := .exclusive, holders := [w.toHolder], waiters := rest, generation := nextGeneration e.generation }

/-- The entry after a regrant to the SHARED waiters at the head of its queue (R29). -/
def HomeEntry.grantedBatch (e : HomeEntry) : HomeEntry :=
  { e with
    state := .shared, holders := addHolders (e.waiters.takeWhile Waiter.wantsShared) [],
    waiters := e.waiters.dropWhile Waiter.wantsShared, generation := nextGeneration e.generation }

/-- A regrant with an EXCLUSIVE head (R28). -/
theorem regrant_exclusive (e : HomeEntry) (w : Waiter) (rest : List Waiter) (hw : e.waiters = w :: rest)
    (hm : w.mode = .exclusive) :
    regrant e = (e.grantedHead w rest, (e.grantedHead w rest).grantsTo .exclusive [w]) := by
  rw [regrant, hw]
  simp only [hm]
  rfl

/-- A regrant with a SHARED head (R29). -/
theorem regrant_shared (e : HomeEntry) (w : Waiter) (rest : List Waiter) (hw : e.waiters = w :: rest)
    (hm : w.mode = .shared) :
    regrant e = (e.grantedBatch, e.grantedBatch.grantsTo .shared (e.waiters.takeWhile Waiter.wantsShared)) := by
  rw [HomeEntry.grantedBatch, hw, regrant, hw]
  simp only [hm]

/-- The SHARED waiters at the head of a queue and the rest of it are the queue. -/
theorem length_takeWhile_add_dropWhile (ws : List Waiter) :
    (ws.takeWhile Waiter.wantsShared).length + (ws.dropWhile Waiter.wantsShared).length = ws.length := by
  rw [← List.length_append, List.takeWhile_append_dropWhile]

/-- A regrant leaves a lawful entry (R28, R29). -/
theorem regrant_leavesLawful (e : HomeEntry) (free : e.holders = []) (queue : e.waiters ≠ [])
    (different : e.stations.Nodup) (value : e.value.length ≤ Config.valueBytes) :
    leavesLawful e (some (regrant e).1, (regrant e).2) := by
  obtain ⟨w, rest, hw⟩ := List.exists_cons_of_ne_nil queue
  simp only [HomeEntry.stations, free, List.map_nil, List.nil_append] at different
  cases hm : w.mode with
  | exclusive =>
    rw [regrant_exclusive e w rest hw hm]
    refine ⟨?_, by simp [hw, HomeEntry.grantsTo]⟩
    rintro _ ⟨⟩
    exact ⟨HomeEntry.lawful_of_soleHolder _ w.toHolder .exclusive rfl rfl 
      (by simpa [hw, HomeEntry.stations, HomeEntry.grantedHead, Waiter.toHolder] using different) (by simp)
      (nextGeneration_ne_zero _) value, rfl, by simp [hw, HomeEntry.grantedHead]⟩
  | shared =>
    have lengths := length_takeWhile_add_dropWhile e.waiters
    rw [regrant_shared e w rest hw hm]
    refine ⟨?_, by simp only [HomeEntry.grantsTo, List.length_map]; omega⟩
    rintro _ ⟨⟩
    have held : e.grantedBatch.holders ≠ [] := by
      refine List.ne_nil_of_length_pos ?_
      simp [HomeEntry.grantedBatch, length_addHolders, hw, Waiter.wantsShared, hm]
    refine ⟨HomeEntry.lawful_of_joined _ (e.waiters.takeWhile Waiter.wantsShared) [] rfl held rfl (by simp) ?_
      (head_dropWhile_wantsShared _) (nextGeneration_ne_zero _) value, rfl, ?_⟩
    · simpa [HomeEntry.grantedBatch] using different
    · simp only [HomeEntry.grantedBatch]; omega

/-- What follows the removal of a holder leaves a lawful entry or none (R15, R27 to R30). -/
theorem afterHolderLeft_leavesLawful (e : HomeEntry) (different : e.stations.Nodup) (gen : e.generation ≠ 0#16)
    (value : e.value.length ≤ Config.valueBytes) (held : e.holders ≠ [] → e.lawful) :
    leavesLawful e (afterHolderLeft e) := by
  by_cases hh : e.holders = []
  · by_cases hw : e.waiters = []
    · rw [State.afterHolderLeft_frees e hh hw]
      refine ⟨?_, by simp⟩
      intro e' he'
      split at he'
      · cases he'
      · next kept =>
        cases he'
        exact ⟨⟨different, by simp [hh], by simp [hh], by simp, fun _ => ⟨hw, kept⟩, by simp, gen, value⟩, rfl,
          le_refl _⟩
    · rw [State.afterHolderLeft_regrants e hh hw]
      exact regrant_leavesLawful e hh hw different value
  · rw [State.afterHolderLeft_holds e hh]
    refine ⟨?_, by simp⟩
    rintro _ ⟨⟩
    exact ⟨held hh, rfl, le_refl _⟩

/-- A reassessment makes an entry lawful that is so but for the head of its queue (R31). -/
theorem reassess_leavesLawful (e : HomeEntry) (different : e.stations.Nodup)
    (asc : (e.holders.map (fun h => h.station.val)).Pairwise (· < ·)) (free : e.state = .free ↔ e.holders = [])
    (excl : e.state = .exclusive → e.holders.length = 1) (quiet : e.holders = [] → e.waiters = [] ∧ e.value ≠ [])
    (gen : e.generation ≠ 0#16) (value : e.value.length ≤ Config.valueBytes) :
    leavesLawful e (some (reassess e).1, (reassess e).2) := by
  have kept : e.state ≠ .shared → leavesLawful e (some e, []) := by
    intro other
    refine ⟨?_, by simp⟩
    rintro _ ⟨⟩
    exact ⟨⟨different, asc, free, excl, quiet, fun shared => absurd shared other, gen, value⟩, rfl, le_refl _⟩
  cases hs : e.state with
  | free => simpa only [reassess, hs] using kept (by simp [hs])
  | exclusive => simpa only [reassess, hs] using kept (by simp [hs])
  | shared =>
    have lengths := length_takeWhile_add_dropWhile e.waiters
    have held : e.holders ≠ [] := fun empty => by simp [free.mpr empty] at hs
    simp only [reassess, hs]
    refine ⟨?_, by simp only [HomeEntry.grantsTo, List.length_map]; omega⟩
    rintro _ ⟨⟩
    refine ⟨HomeEntry.lawful_of_joined _ (e.waiters.takeWhile Waiter.wantsShared) e.holders rfl ?_ rfl asc ?_
      (head_dropWhile_wantsShared _) gen value, rfl, by simp only; omega⟩
    · refine List.ne_nil_of_length_pos ?_
      have := List.length_pos_iff.mpr held
      simp only [length_addHolders]
      omega
    · simpa only [List.takeWhile_append_dropWhile, HomeEntry.stations] using different

/-- Without one of its holders an entry's stations are still different. -/
theorem HomeEntry.dropHolder_stations (e : HomeEntry) (p : Station) (t : Tag) (different : e.stations.Nodup) :
    (e.dropHolder p t).stations.Nodup :=
  different.sublist ((List.filter_sublist.map _).append_right _)

/-- An entry that loses a holder and keeps another stays lawful, whatever value block it is given (R27, R30). -/
theorem HomeEntry.dropHolder_lawful (e : HomeEntry) (p : Station) (t : Tag) (law : e.lawful)
    (held : (e.dropHolder p t).holders ≠ []) : (e.dropHolder p t).lawful := by
  obtain ⟨different, asc, free, excl, _, head, gen, value⟩ := law
  have part : (e.dropHolder p t).holders.Sublist e.holders := List.filter_sublist
  have before : e.holders ≠ [] := fun empty => held (List.sublist_nil.mp (empty ▸ part))
  refine ⟨e.dropHolder_stations p t different, asc.sublist (part.map _), ?_, ?_, fun empty => absurd empty held, head,
    gen, value⟩
  · exact iff_of_false (fun f => before (free.mp f)) held
  · intro x
    have := part.length_le
    have := List.length_pos_iff.mpr held
    have := excl x
    omega

/-- What follows the removal of a holder, with the value block as the release leaves it (R27, R30). -/
theorem dropHolder_leavesLawful (e : HomeEntry) (p : Station) (t : Tag) (v : List Byte) (law : e.lawful)
    (value : v.length ≤ Config.valueBytes) :
    leavesLawful e (afterHolderLeft { e.dropHolder p t with value := v }) := by
  have different := e.dropHolder_stations p t (HomeEntry.different_of_lawful law)
  have kept := e.dropHolder_lawful p t law
  obtain ⟨_, _, _, _, _, _, gen, _⟩ := law
  refine afterHolderLeft_leavesLawful { e.dropHolder p t with value := v } different gen value fun held => ?_
  obtain ⟨_, asc, free, excl, _, head, _, _⟩ := kept held
  exact ⟨different, asc, free, excl, fun empty => absurd empty held, head, gen, value⟩

/-- The removal of a waiter and the reassessment that follows (R31). -/
theorem dropWaiter_leavesLawful (e : HomeEntry) (p : Station) (t : Tag) (law : e.lawful) :
    leavesLawful (e.dropWaiter p t) (some (reassess (e.dropWaiter p t)).1, (reassess (e.dropWaiter p t)).2) := by
  obtain ⟨different, asc, free, excl, quiet, _, gen, value⟩ := law
  refine reassess_leavesLawful (e.dropWaiter p t)
    (different.sublist ((List.filter_sublist.map _).append_left _)) asc free excl (fun empty => ?_) gen value
  obtain ⟨noWaiter, kept⟩ := quiet empty
  exact ⟨by simp [HomeEntry.dropWaiter, noWaiter], kept⟩

/-! ## What a step leaves of the table -/

/-- A step leaves a lawful table and produces no more responses than a step finds room for (R21, R35). -/
def HomeStep.lawful (x : HomeStep) : Prop :=
  tableLawful x.table ∧ x.responses.length ≤ Config.reservedResponses

/-- A step that only answers is lawful. -/
theorem answerOnly_lawful (table : List HomeEntry) (p : Station) (b : ResponseBody) (law : tableLawful table) :
    (answerOnly table p b).lawful :=
  ⟨law, by simp [answerOnly, Config.reservedResponses]⟩

/-- A step that stores what it left of an entry of the table, and answers before the GRANTs, is lawful. -/
theorem lawful_of_left (x y : HomeEntry) (r : Option HomeEntry × List OutResponse) (table : List HomeEntry)
    (answers : List OutResponse) (law : tableLawful table) (hx : x ∈ table) (left : leavesLawful y r)
    (hl : y.lock = x.lock) (queue : y.waiters.length ≤ x.waiters.length)
    (room : answers.length + y.waiters.length ≤ Config.reservedResponses) :
    HomeStep.lawful { table := storeEntry x.lock r.1 table, responses := answers ++ r.2 } := by
  obtain ⟨entry, grants⟩ := left
  refine ⟨tableLawful_store x r.1 table law hx fun e he => ?_, by rw [List.length_append]; omega⟩
  obtain ⟨lawful, lock, length⟩ := entry e he
  exact ⟨lawful, lock.trans hl, length.trans queue⟩

end Sys2Proof.Machine

namespace Sys2Proof.Machine

/-- An entry a station neither holds nor awaits is without it (R23). -/
theorem HomeEntry.not_mem_stations (e : HomeEntry) (p : Station) (h : e.involves p = false) : p ∉ e.stations := by
  simpa [HomeEntry.involves, HomeEntry.stations, not_or] using h

/-- A station that joins the queue's tail stands once in the entry. -/
theorem HomeEntry.queued_lawful (e : HomeEntry) (w : Waiter) (law : e.lawful) (new : w.station ∉ e.stations)
    (held : e.state ≠ .free) (blocked : ¬ (w.mode = .shared ∧ e.state = .shared ∧ e.waiters = [])) :
    ({ e with waiters := e.waiters ++ [w] } : HomeEntry).lawful := by
  obtain ⟨different, asc, free, excl, _, head, gen, value⟩ := law
  refine ⟨?_, asc, free, excl, fun empty => absurd (free.mpr empty) held, fun shared => ?_, gen, value⟩
  · have perm : ({ e with waiters := e.waiters ++ [w] } : HomeEntry).stations.Perm (w.station :: e.stations) := by
      simp only [HomeEntry.stations, List.map_append, List.map_cons, List.map_nil, ← List.append_assoc]
      exact List.perm_append_singleton _ _
    exact perm.nodup_iff.mpr (List.nodup_cons.mpr ⟨new, different⟩)
  · cases hw : e.waiters with
    | nil => exact fun wants => blocked ⟨by simpa [hw] using wants, shared, hw⟩
    | cons x xs => simpa [hw] using head shared

/-- An entry granted to its one holder at a new generation is lawful, if no queue stands and its value fits (R24). -/
theorem granted_lawful (e : HomeEntry) (p : Station) (t : Tag) (m : LockMode) (hh : e.holders = [⟨p, t⟩])
    (hs : e.state = m.lockState) (hw : e.waiters = []) (gen : e.generation ≠ 0#16)
    (value : e.value.length ≤ Config.valueBytes) : e.lawful :=
  e.lawful_of_soleHolder ⟨p, t⟩ m hh hs (by simp [HomeEntry.stations, hh, hw]) (by simp [hw]) gen value

/-- A SHARED hold that a new station joins stays lawful (R24). -/
theorem HomeEntry.joined_lawful (e : HomeEntry) (p : Station) (t : Tag) (law : e.lawful) (new : p ∉ e.stations)
    (shared : e.state = .shared) (hw : e.waiters = []) :
    ({ e with holders := insertHolder ⟨p, t⟩ e.holders } : HomeEntry).lawful := by
  obtain ⟨different, asc, _, _, _, head, gen, value⟩ := law
  refine HomeEntry.lawful_of_joined _ [⟨p, t, .shared⟩] e.holders rfl ?_ shared asc ?_ (head shared) gen value
  · exact List.ne_nil_of_length_pos (by simp [length_insertHolder])
  · simp only [HomeEntry.stations, hw, List.map_nil, List.append_nil] at different new
    simp only [hw, List.append_nil, List.map_cons, List.map_nil]
    exact (List.perm_append_singleton _ _).nodup_iff.mpr (List.nodup_cons.mpr ⟨new, different⟩)

/-- An ACQUIRE keeps the table lawful (R23 to R25). -/
theorem acquireStep_lawful (own : Station) (map : List MapRange) (table : List HomeEntry) (p : Station) (t : Tag)
    (l : LockId) (m : LockMode) (w : WaitKind) (law : tableLawful table) :
    (acquireStep own map table p t l m w).lawful := by
  have denied (r : DenyReason) : (answerOnly table p (.deny l t r)).lawful := answerOnly_lawful table p _ law
  have one (x : OutResponse) : [x].length ≤ Config.reservedResponses := by simp [Config.reservedResponses]
  obtain ⟨_, _, pool, _⟩ := id law
  unfold acquireStep
  split
  · exact denied .notHome
  · cases found : findEntry table l with
    | none =>
      dsimp only
      split
      · exact denied .tableFull
      · next room =>
        refine ⟨tableLawful_add _ table law found (Nat.lt_of_not_le room) ?_ rfl, one _⟩
        exact granted_lawful _ p t m rfl rfl rfl (by simp) (by simp)
    | some e =>
      have he := findEntry_mem table l e found
      have lawful := lawful_of_mem law he
      dsimp only
      split
      · exact denied .duplicate
      · next new =>
        have new := e.not_mem_stations p (by simpa using new)
        split
        · next free =>
          obtain ⟨_, _, isFree, _, quiet, _, _, value⟩ := lawful
          have noWaiter := (quiet (isFree.mp free)).1
          refine ⟨tableLawful_replace _ e table law he rfl ?_ (by simp only; omega), one _⟩
          exact granted_lawful _ p t m rfl rfl noWaiter (nextGeneration_ne_zero _) value
        · next held =>
          split
          · next joins =>
            obtain ⟨_, shared, noWaiter⟩ := joins
            exact ⟨tableLawful_replace _ e table law he rfl (e.joined_lawful p t lawful new shared noWaiter)
              (by simp only; omega), one _⟩
          · next blocked =>
            cases w with
            | tryOnce => exact denied .busy
            | queue =>
              dsimp only
              split
              · exact denied .poolFull
              · next room =>
                refine ⟨tableLawful_replace _ e table law he rfl ?_ (by simp; omega), by simp⟩
                exact e.queued_lawful ⟨p, t, m⟩ lawful new held blocked

/-- What follows the removal of a holder that leaves the value block (R30). -/
theorem dropHolder_leavesLawful_same (e : HomeEntry) (p : Station) (t : Tag) (law : e.lawful) :
    leavesLawful e (afterHolderLeft (e.dropHolder p t)) :=
  dropHolder_leavesLawful e p t e.value law (HomeEntry.value_of_lawful law)

/-- With a holder among its sixteen stations, an entry's waiters leave room for an answer before their GRANTs. -/
theorem HomeEntry.room_of_holder (e : HomeEntry) (law : e.lawful) (holder : e.holders ≠ []) :
    1 + e.waiters.length ≤ Config.reservedResponses := by
  have sixteen := HomeEntry.length_stations_le law
  have := List.length_pos_iff.mpr holder
  simp only [Config.reservedResponses]
  omega

/-- A RELEASE keeps the table lawful (R26, R27). -/
theorem releaseStep_lawful (table : List HomeEntry) (p : Station) (t : Tag) (l : LockId) (g : Word) (u : Bool)
    (v : List Byte) (law : tableLawful table) (value : v.length ≤ Config.valueBytes) :
    (releaseStep table p t l g u v).lawful := by
  unfold releaseStep
  cases found : findEntry table l with
  | none => exact answerOnly_lawful table p _ law
  | some e =>
    obtain rfl := findEntry_lock table l e found
    have he := findEntry_mem table _ e found
    dsimp only
    split
    · exact answerOnly_lawful table p _ law
    · next holds =>
      have holder : e.holders ≠ [] := fun empty => holds (.inl (by simp [HomeEntry.heldBy, empty]))
      refine lawful_of_left e e _ table [_] law he ?_ rfl (le_refl _) (e.room_of_holder (lawful_of_mem law he) holder)
      split
      · exact dropHolder_leavesLawful e p t v (lawful_of_mem law he) value
      · exact dropHolder_leavesLawful_same e p t (lawful_of_mem law he)

/-- A CANCEL keeps the table lawful (R32). -/
theorem cancelStep_lawful (table : List HomeEntry) (p : Station) (t : Tag) (l : LockId) (law : tableLawful table) :
    (cancelStep table p t l).lawful := by
  unfold cancelStep
  cases found : findEntry table l with
  | none => exact answerOnly_lawful table p _ law
  | some e =>
    obtain rfl := findEntry_lock table l e found
    have he := findEntry_mem table _ e found
    have lawful := lawful_of_mem law he
    dsimp only
    split
    · next awaits =>
      have shorter : (e.dropWaiter p t).waiters.length < e.waiters.length := by
        rw [HomeEntry.dropWaiter, List.length_filter_lt_length_iff_exists]
        simpa [HomeEntry.awaitedBy] using awaits
      have sixteen := HomeEntry.length_stations_le lawful
      refine lawful_of_left e _ (some _, _) table [_] law he (dropWaiter_leavesLawful e p t lawful) rfl shorter.le ?_
      simp only [List.length_singleton, Config.reservedResponses]
      omega
    · split
      · next holds =>
        have holder : e.holders ≠ [] := fun empty => by simp [HomeEntry.heldBy, empty] at holds
        exact lawful_of_left e e _ table [_] law he (dropHolder_leavesLawful_same e p t lawful) rfl (le_refl _)
          (e.room_of_holder lawful holder)
      · exact answerOnly_lawful table p _ law

/-- A visit of the walk keeps the table lawful (R35). -/
theorem visitStep_lawful (table : List HomeEntry) (p : Station) (e : HomeEntry) (law : tableLawful table)
    (he : e ∈ table) : (visitStep table p e).lawful := by
  have lawful := lawful_of_mem law he
  have sixteen := HomeEntry.length_stations_le lawful
  unfold visitStep
  split
  · next w _ =>
    have queue : (e.dropWaiter p w.tag).waiters.length ≤ e.waiters.length := List.length_filter_le _ _
    refine lawful_of_left e _ (some _, _) table [] law he (dropWaiter_leavesLawful e p w.tag lawful) rfl queue ?_
    simp only [List.length_nil, Config.reservedResponses]
    omega
  · split
    · next h _ =>
      refine lawful_of_left e e _ table [] law he (dropHolder_leavesLawful_same e p h.tag lawful) rfl (le_refl _) ?_
      simp only [List.length_nil, Config.reservedResponses]
      omega
    · exact ⟨law, by simp⟩

end Sys2Proof.Machine

/-! # The bounds of the home controller and of the values on their way to it

`State.HomeBounded` is the invariant of HomeInvKept with its parts named. Each operation of the model keeps it; most
change nothing it speaks of but the request frames and the frames slots owe. -/

namespace Sys2Proof.Machine

/-- The home controller's own part: a lawful table, and an inbound request queue within its bound of requests whose
values fit (R11, R19). -/
structure HomeController.Bounded (h : HomeController) : Prop where
  table : tableLawful h.table
  inbound : h.inbound.length ≤ Config.inboundEntries
  inboundValues : ∀ r ∈ h.inbound, r.body.valueLength ≤ Config.valueBytes

/-- The invariant: the home controller within its bounds, every value on its way to a home a value block, and the
outbound response queue within its entries (R11, R19, R114). -/
structure State.HomeBounded (s : State) : Prop where
  home : s.home.Bounded
  requestValues : ∀ e ∈ s.dlv.requests, e.body.valueLength ≤ Config.valueBytes
  owedValues : ∀ t r, s.slot t = some r → r.owedLength ≤ Config.valueBytes
  responses : s.dlv.responses.length ≤ Config.outboundEntries

/-- The invariant is the one the statement names. -/
theorem State.homeBounded_iff (s : State) : s.HomeBounded ↔ HomeInv s ∧ s.dlv.responses.length ≤ 32 := by
  have owed : (∀ t r, s.slot t = some r → r.owedLength ≤ Config.valueBytes) ↔
      ∀ t, s.slotIs t (fun r => decide (r.owedLength ≤ Config.valueBytes)) = true := by
    refine forall_congr' fun t => ?_
    unfold slotIs
    cases s.slot t <;> simp
  constructor
  · rintro ⟨⟨table, inbound, values⟩, requests, slots, responses⟩
    exact ⟨⟨table, inbound, values, requests, owed.mp slots⟩, responses⟩
  · rintro ⟨⟨table, inbound, values, requests, slots⟩, responses⟩
    exact ⟨⟨table, inbound, values⟩, requests, owed.mpr slots, responses⟩

/-- The values that a reset and the entry to LEAVING leave. -/
theorem HomeController.bounded_empty : HomeController.empty.Bounded where
  table := ⟨.nil, Nat.zero_le _, Nat.zero_le _, fun _ he => absurd he List.not_mem_nil⟩
  inbound := by simp [HomeController.empty]
  inboundValues := by simp [HomeController.empty]

/-- The end of a walk and the beginning of the next touch neither the table nor the inbound request queue. -/
theorem settleWalk_kept (h : HomeController) :
    (settleWalk h).table = h.table ∧ (settleWalk h).inbound = h.inbound := by
  unfold settleWalk
  repeat' split
  all_goals exact ⟨rfl, rfl⟩

namespace HomeController.Bounded

variable {h : HomeController}

/-- Kept when the table stays and no request is new. -/
theorem of_fewer {x : HomeController} (b : h.Bounded) (table : x.table = h.table)
    (inbound : x.inbound.Sublist h.inbound) : x.Bounded where
  table := table ▸ b.table
  inbound := inbound.length_le.trans b.inbound
  inboundValues r hr := b.inboundValues r (inbound.subset hr)

theorem settleWalk (b : h.Bounded) : (settleWalk h).Bounded := by
  obtain ⟨table, inbound⟩ := settleWalk_kept h
  exact b.of_fewer table (inbound ▸ .refl _)

/-- Kept by a request taken while an entry is free. -/
theorem queue (b : h.Bounded) (r : InboundRequest) (room : h.inbound.length < Config.inboundEntries)
    (fits : r.body.valueLength ≤ Config.valueBytes) :
    ({ h with inbound := h.inbound ++ [r] } : HomeController).Bounded where
  table := b.table
  inbound := by simpa using room
  inboundValues a ha := by
    rcases List.mem_append.mp ha with old | new
    · exact b.inboundValues a old
    · rwa [List.mem_singleton.mp new]

theorem purge (b : h.Bounded) (online : Bool) (p : Station) : (h.purge online p).Bounded := by
  have filtered := b.of_fewer (x := { h with inbound := h.inbound.filter (fun r => decide (r.source ≠ p)) }) rfl
    List.filter_sublist
  unfold HomeController.purge
  dsimp only
  split
  · exact filtered
  · split
    · exact filtered
    · exact HomeController.Bounded.settleWalk (filtered.of_fewer rfl (.refl _))

end HomeController.Bounded

namespace State.HomeBounded

variable {s x : State}

/-! ## The blocks it speaks of -/

/-- Kept when home and slots stay, no request frame is new and no response is added. -/
theorem of_fewer (h : s.HomeBounded) (home : x.home = s.home) (slots : x.req.slots = s.req.slots)
    (requests : ∀ e ∈ x.dlv.requests, e ∈ s.dlv.requests)
    (responses : x.dlv.responses.length ≤ s.dlv.responses.length) : x.HomeBounded where
  home := home ▸ h.home
  requestValues e he := h.requestValues e (requests e he)
  owedValues t r hr := h.owedValues t r (by rw [← hr, State.slot, State.slot, slots])
  responses := responses.trans h.responses

/-- Kept when the home, the request controller and the delivery unit stay as they are. -/
theorem of_same (h : s.HomeBounded) (home : x.home = s.home) (req : x.req = s.req) (dlv : x.dlv = s.dlv) :
    x.HomeBounded :=
  h.of_fewer home (by rw [req]) (by simp [dlv]) (by simp [dlv])

/-- Kept by either of two states, whatever decides between them. -/
theorem ite {c : Prop} [Decidable c] {a b : State} (ha : a.HomeBounded) (hb : b.HomeBounded) :
    (if c then a else b).HomeBounded := by
  split <;> assumption

/-- Kept by a home controller within its bounds. -/
theorem withHome (h : s.HomeBounded) {c : HomeController} (hc : c.Bounded) : (s.withHome c).HomeBounded :=
  ⟨hc, h.requestValues, h.owedValues, h.responses⟩

theorem withCtl (h : s.HomeBounded) (c : StationController) : (s.withCtl c).HomeBounded := h.of_same rfl rfl rfl
theorem withRoster (h : s.HomeBounded) (c : PeerRoster) : (s.withRoster c).HomeBounded := h.of_same rfl rfl rfl
theorem withBus (h : s.HomeBounded) (c : BusAccess) : (s.withBus c).HomeBounded := h.of_same rfl rfl rfl
theorem withPort (h : s.HomeBounded) (c : LocalPort) : (s.withPort c).HomeBounded := h.of_same rfl rfl rfl
theorem withPending (h : s.HomeBounded) (c : List Instr) : (s.withPending c).HomeBounded := h.of_same rfl rfl rfl
theorem setPeer (h : s.HomeBounded) (p : Station) (r : PeerRecord) : (s.setPeer p r).HomeBounded := h.withRoster _
theorem setResult (h : s.HomeBounded) (r : SubmissionResult) : (s.setResult r).HomeBounded := h.withPort _

/-- Kept by a slot that owes no value too long. -/
theorem setSlot (h : s.HomeBounded) (t : Tag) (r : Option SlotRecord)
    (fits : ∀ a, r = some a → a.owedLength ≤ Config.valueBytes) : (s.setSlot t r).HomeBounded where
  home := h.home
  requestValues := h.requestValues
  owedValues u a ha := by
    by_cases e : t = u
    · subst e
      exact fits a (by simpa using ha)
    · rw [slot_setSlot_of_ne s t u r e] at ha
      exact h.owedValues u a ha
  responses := h.responses

/-- Kept by a slot that owes what it owed. -/
theorem setSlot_owing (h : s.HomeBounded) (t : Tag) (r : SlotRecord) (fits : r.owedLength ≤ Config.valueBytes) :
    (s.setSlot t (some r)).HomeBounded :=
  h.setSlot t _ fun a e => by rwa [← Option.some.inj e]

/-- Kept by a request frame whose value fits. -/
theorem appendRequest (h : s.HomeBounded) (e : OutRequest) (fits : e.body.valueLength ≤ Config.valueBytes) :
    (s.appendRequest e).HomeBounded where
  home := h.home
  requestValues a ha := by
    rcases List.mem_append.mp ha with old | new
    · exact h.requestValues a old
    · rwa [List.mem_singleton.mp new]
  owedValues := h.owedValues
  responses := h.responses

theorem postRecords (h : s.HomeBounded) (rs : List CompletionRecord) : (s.postRecords rs).HomeBounded :=
  h.of_fewer rfl rfl (fun _ he => he) (le_refl _)

theorem setSend (h : s.HomeBounded) (p : Station) (r : SendRecord) : (s.setSend p r).HomeBounded :=
  h.of_fewer rfl rfl (fun _ he => he) (le_refl _)

theorem setReceive (h : s.HomeBounded) (p : Station) (r : Option ReceiveRecord) : (s.setReceive p r).HomeBounded :=
  h.of_fewer rfl rfl (fun _ he => he) (le_refl _)

theorem setPresenceDue (h : s.HomeBounded) : s.setPresenceDue.HomeBounded :=
  h.ite (h.of_fewer rfl rfl (fun _ he => he) (le_refl _))

/-! ## When a command is taken -/

theorem running (h : s.HomeBounded) {f : State → State} (kept : (f s).HomeBounded) : (running s f).HomeBounded :=
  h.ite kept

theorem portCycle (h : s.HomeBounded) {f : State → State} (kept : ∀ x : State, x.HomeBounded → (f x).HomeBounded) :
    (portCycle s f).HomeBounded :=
  h.ite (kept _ (h.withPort _))

theorem onlyIf (h : s.HomeBounded) {c : Prop} [Decidable c] {f : State → State} (kept : (f s).HomeBounded) :
    (onlyIf c s f).HomeBounded :=
  kept.ite h

end State.HomeBounded

/-! ## What slots owe -/

/-- A slot that finishes owes nothing (R77). -/
theorem SlotRecord.owedLength_of_finished (r a : SlotRecord) (st : Bool) (h : r.finished st = some a) :
    a.owedLength ≤ Config.valueBytes := by
  unfold SlotRecord.finished at h
  split at h
  · cases h
  · cases h
    exact Nat.zero_le _

/-- A slot that is settled owes what it owed. -/
theorem SlotRecord.owedLength_of_settled (r a : SlotRecord) (st : Bool) (h : r.settled st = some a) :
    a.owedLength = r.owedLength := by
  unfold SlotRecord.settled at h
  split at h <;> cases h
  rfl

/-- A slot that is lost owes nothing, or what it owed. -/
theorem SlotRecord.owedLength_of_lost (r a : SlotRecord) (t : Tag) (why : Reason) (st : Bool)
    (h : r.lose t why st = some a) (fits : r.owedLength ≤ Config.valueBytes) : a.owedLength ≤ Config.valueBytes := by
  unfold SlotRecord.lose at h
  split at h
  · exact (r.counting (r.lostRecord t why)).owedLength_of_finished a st h
  · exact (r.owedLength_of_settled a st h).trans_le fits

namespace State

/-! ## The outbound response queue is the home steps' alone -/

@[simp] theorem sendOrOwe_responses (s : State) (t : Tag) (r : SlotRecord) (b : RequestBody) :
    (s.sendOrOwe t r b).dlv.responses = s.dlv.responses := by
  unfold sendOrOwe
  split <;> rfl

@[simp] theorem applyToMarked_responses (s : State) (t : Tag) (r : SlotRecord) :
    (s.applyToMarked t r).dlv.responses = s.dlv.responses := by
  simp [applyToMarked]

/-- A response applied here adds none. -/
@[simp] theorem applyResponse_responses (s : State) (src : Station) (b : ResponseBody) :
    (s.applyResponse src b).dlv.responses = s.dlv.responses := by
  unfold applyResponse
  repeat' split
  all_goals simp

namespace HomeBounded

variable {s : State}

/-! ## The request controller -/

theorem finishSlot (h : s.HomeBounded) (t : Tag) (r : SlotRecord) (rec : Option CompletionRecord) :
    (s.finishSlot t r rec).HomeBounded :=
  (h.postRecords _).setSlot t _ fun a => (r.counting rec).owedLength_of_finished a _

theorem postAndKeep (h : s.HomeBounded) (t : Tag) (r : SlotRecord) (rec : CompletionRecord)
    (fits : r.owedLength ≤ Config.valueBytes) : (s.postAndKeep t r rec).HomeBounded :=
  (h.postRecords _).setSlot_owing t _ fits

theorem sendOrOwe (h : s.HomeBounded) (t : Tag) (r : SlotRecord) (b : RequestBody)
    (fits : r.owedLength ≤ Config.valueBytes) (value : b.valueLength ≤ Config.valueBytes) :
    (s.sendOrOwe t r b).HomeBounded := by
  unfold State.sendOrOwe
  split
  · exact h.setSlot_owing t _ value
  · exact (h.setSlot_owing t r fits).appendRequest _ value

theorem endRead (h : s.HomeBounded) (t : Tag) (w : Word) : (s.endRead t w).HomeBounded :=
  h.of_same (by simp) (by simp) (by simp)

theorem endReadGranted (h : s.HomeBounded) (t : Tag) (g : Word) (v : List Byte) :
    (s.endReadGranted t g v).HomeBounded :=
  h.of_same (by simp) (by simp) (by simp)

theorem applyGrant (h : s.HomeBounded) (t : Tag) (r : SlotRecord) (g : Word) (v : List Byte)
    (fits : r.owedLength ≤ Config.valueBytes) : (s.applyGrant t r g v).HomeBounded := by
  unfold State.applyGrant
  cases r.origin with
  | command => exact h.postAndKeep t _ _ fits
  | window =>
    refine State.HomeBounded.endReadGranted (h.setSlot_owing t _ ?_) t g v
    exact fits

theorem applyDeny (h : s.HomeBounded) (t : Tag) (r : SlotRecord) (why : DenyReason) :
    (s.applyDeny t r why).HomeBounded := by
  unfold State.applyDeny
  cases r.origin with
  | command => exact h.finishSlot t r _
  | window => exact (h.finishSlot t r none).endRead t _

theorem applyToMarked (h : s.HomeBounded) (t : Tag) (r : SlotRecord) (fits : r.owedLength ≤ Config.valueBytes) :
    (s.applyToMarked t r).HomeBounded :=
  h.sendOrOwe t _ (.cancel r.lock t) fits (Nat.zero_le _)

/-- A response is applied to a slot that owes no value too long (R53 to R58). -/
theorem applyResponse (h : s.HomeBounded) (src : Station) (b : ResponseBody) :
    (s.applyResponse src b).HomeBounded := by
  unfold State.applyResponse
  cases hr : s.slot b.tag with
  | none => exact h
  | some r =>
    have fits := h.owedValues _ r hr
    dsimp only
    split
    · exact h
    · cases b with
      | grant l t m g v =>
        cases r.state with
        | waiting => exact h.applyGrant t r g v fits
        | pending =>
          dsimp only
          split
          · exact h.applyToMarked t r fits
          · exact h.applyGrant t r g v fits
        | held | releasing | cancelling | done => exact h
      | deny l t why =>
        cases r.state with
        | waiting => exact h.applyDeny t r why
        | pending =>
          dsimp only
          split
          · exact h.applyToMarked t r fits
          · exact h.applyDeny t r why
        | held | releasing | cancelling | done => exact h
      | released l t o =>
        cases r.state with
        | releasing => exact h.finishSlot t r _
        | pending | waiting | held | cancelling | done => exact h
      | cancelled l t o =>
        cases r.state with
        | cancelling => exact h.finishSlot t r _
        | pending | waiting | held | releasing | done => exact h

theorem sendOwed (h : s.HomeBounded) (t : Tag) (r : SlotRecord) (fits : r.owedLength ≤ Config.valueBytes) :
    (s.sendOwed t r).HomeBounded := by
  unfold State.sendOwed
  cases hb : r.owed with
  | none => exact h
  | some b =>
    have value : b.valueLength ≤ Config.valueBytes := by simpa [SlotRecord.owedLength, hb] using fits
    exact (h.setSlot_owing t _ (Nat.zero_le _)).appendRequest _ value

theorem requestDeparted (h : s.HomeBounded) (t : Tag) (isAcquire : Bool) :
    (s.requestDeparted t isAcquire).HomeBounded := by
  unfold State.requestDeparted
  cases hr : s.slot t with
  | none => exact h
  | some r =>
    have fits := h.owedValues t r hr
    dsimp only
    cases r.state with
    | pending =>
      dsimp only
      split
      · exact h
      · split
        · exact h.sendOrOwe t _ (.cancel r.lock t) fits (Nat.zero_le _)
        · exact h.setSlot_owing t _ fits
    | done => exact h.setSlot t _ fun a ha => (r.owedLength_of_settled a _ ha).trans_le fits
    | waiting | held | releasing | cancelling => exact h.sendOwed t r fits

theorem withdraw (h : s.HomeBounded) (t : Tag) (e : OutRequest) : (s.withdraw t e).HomeBounded := by
  unfold State.withdraw
  dsimp only
  split
  · exact (h.setSend _ _).of_fewer rfl rfl (fun _ he => List.mem_of_mem_filter he) (le_refl _)
  · exact h.of_fewer rfl rfl (fun _ he => List.mem_of_mem_filter he) (le_refl _)

theorem withdrawAndFinish (h : s.HomeBounded) (t : Tag) (r : SlotRecord) (e : OutRequest) :
    (s.withdrawAndFinish t r e).HomeBounded :=
  (h.withdraw t e).finishSlot t r _

theorem acquireNotTaken (h : s.HomeBounded) (t : Tag) : (s.acquireNotTaken t).HomeBounded := by
  unfold State.acquireNotTaken
  split
  · split
    · exact h.withdrawAndFinish t _ _
    · exact h
  · exact h
  · exact h

theorem cancelSlot (h : s.HomeBounded) (t : Tag) (cause : CancelCause) : (s.cancelSlot t cause).HomeBounded := by
  unfold State.cancelSlot
  cases hr : s.slot t with
  | none => exact h
  | some r =>
    have fits := h.owedValues t r hr
    dsimp only
    cases r.state with
    | pending =>
      dsimp only
      split
      · exact h
      · split
        · split
          · exact h.withdrawAndFinish t _ _
          · exact h.setSlot_owing t _ fits
        · exact h.setSlot_owing t _ fits
    | waiting => exact h.sendOrOwe t _ (.cancel r.lock t) fits (Nat.zero_le _)
    | held | releasing | cancelling | done => exact h

theorem openSlot (h : s.HomeBounded) (t : Tag) (l : LockId) (m : LockMode) (w : WaitKind) (o : Origin)
    (home : Station) (timer : Option Nat) : (s.openSlot t l m w o home timer).HomeBounded :=
  (h.setSlot_owing t _ (Nat.zero_le _)).appendRequest _ (Nat.zero_le _)

theorem releaseSlot (h : s.HomeBounded) (t : Tag) (r : SlotRecord) (u : Bool) (v : List Byte)
    (hr : s.slot t = some r) (value : v.length ≤ Config.valueBytes) : (s.releaseSlot t r u v).HomeBounded :=
  h.sendOrOwe t _ _ (h.owedValues t r hr) value

theorem loseSlots (h : s.HomeBounded) (affected : Station → Bool) (why : Reason) :
    (s.loseSlots affected why).HomeBounded where
  home := by simpa using h.home
  requestValues := by simpa using h.requestValues
  owedValues u a ha := by
    rw [slot_loseSlots] at ha
    cases hr : s.slot u with
    | none => simp [hr] at ha
    | some r =>
      have fits := h.owedValues u r hr
      simp only [hr] at ha
      split at ha
      · exact r.owedLength_of_lost a u why _ ha fits
      · exact Option.some.inj ha ▸ fits
  responses := by simpa using h.responses

theorem popRecord (h : s.HomeBounded) : s.popRecord.HomeBounded := by
  unfold State.popRecord
  cases s.req.completions with
  | nil => exact h
  | cons c cs =>
    have popped : (s.withReq { s.req with completions := cs }).HomeBounded :=
      h.of_fewer rfl rfl (fun _ he => he) (le_refl _)
    dsimp only
    split
    · exact popped
    · next r hr =>
      exact popped.setSlot _ _ fun a ha =>
        (SlotRecord.owedLength_of_settled _ a _ ha).trans_le (popped.owedValues _ r hr)

/-! ## Purges -/

theorem purgeDelivery (h : s.HomeBounded) (p : Station) : (s.purgeDelivery p).HomeBounded :=
  h.of_fewer rfl rfl (fun _ he => List.mem_of_mem_filter he) (List.length_filter_le _ _)

theorem purgeHome (h : s.HomeBounded) (p : Station) : (s.purgeHome p).HomeBounded :=
  h.withHome (h.home.purge _ p)

theorem purge (h : s.HomeBounded) (p : Station) (c : PurgeCause) : (s.purge p c).HomeBounded :=
  (((h.purgeDelivery p).setPeer p _).purgeHome p).loseSlots _ _

end HomeBounded
end State
end Sys2Proof.Machine

namespace Sys2Proof.Machine

/-! ## The value a received frame carries (R90, R11) -/

/-- A body that passes check 4 of R90 and has a request in it carries a value block (R11). -/
theorem valueLength_of_parseBody (k : FrameKind) (body : List Byte) (r : RequestBody) (ok : bodyLengthOk k body = true)
    (h : parseBody k body = some (.request r)) : r.valueLength ≤ Config.valueBytes := by
  unfold parseBody at h
  split at h <;>
    simp only [Option.bind_eq_bind, Option.bind_eq_some_iff, Option.some.injEq, reduceCtorEq, and_false,
      exists_false, FrameBody.request.injEq] at h
  · obtain ⟨_, _, _, _, _, _, _, _, rfl⟩ := h
    exact Nat.zero_le _
  · next v =>
    obtain ⟨_, _, _, _, _, _, _, _, taken⟩ := h
    split at taken
    · cases taken
    · cases taken
      simp only [bodyLengthOk, Bool.and_eq_true, decide_eq_true_eq, beq_iff_eq] at ok
      obtain ⟨short, length⟩ := ok
      simpa only [RequestBody.valueLength, length] using short
  · obtain ⟨_, _, _, _, rfl⟩ := h
    exact Nat.zero_le _

/-- A valid request frame carries a value block (R11, R90). -/
theorem valueLength_of_checkFrame (w : Bool) (rx : Reception) (f : Frame) (r : RequestBody)
    (h : checkFrame w rx = .ok f) (hr : f.body = .request r) : r.valueLength ≤ Config.valueBytes := by
  unfold checkFrame at h
  split at h
  · cases h
  · split at h
    · unfold checkComplete at h
      dsimp only at h
      split at h
      · cases h
      · split at h
        · cases h
        · next k _ =>
          split at h
          · cases h
          · next ok =>
            split at h
            · cases h
            · split at h
              · cases h
              · split at h
                · cases h
                · next b parsed =>
                  cases h
                  exact valueLength_of_parseBody k _ r (by simpa using ok) (parsed.trans (congrArg some hr))
    · cases h
  · cases h

namespace State

/-- A staged value is a value block (R11, R175). -/
theorem stagedUpdate_length (s : State) (u : Bool) (v : List Byte) (h : s.stagedUpdate = some (u, v)) :
    v.length ≤ Config.valueBytes := by
  unfold stagedUpdate at h
  split at h
  · cases h
    exact Nat.zero_le _
  · split at h
    · split at h
      · next fits =>
        cases h
        exact (List.length_take_le _ _).trans fits
      · cases h
    · cases h

namespace HomeBounded

variable {s : State}

/-! ## The life cycle -/

theorem powerOn (straps : Straps) (q : List Instr) : (State.powerOn straps q).HomeBounded where
  home := HomeController.bounded_empty
  requestValues e he := absurd he List.not_mem_nil
  owedValues t r hr := by simp [State.powerOn, State.slot, RequestController.empty, Vector.get] at hr
  responses := Nat.zero_le _

theorem submitStart (h : s.HomeBounded) : s.submitStart.HomeBounded := h.of_same (by simp) (by simp) (by simp)

theorem enterOnline (h : s.HomeBounded) : s.enterOnline.HomeBounded :=
  h.of_fewer (by simp) (by simp) (fun _ he => he) (le_refl _)

theorem leaveDelivery (h : s.HomeBounded) : s.leaveDelivery.HomeBounded :=
  h.of_fewer rfl rfl (fun _ he => absurd he List.not_mem_nil) (Nat.zero_le _)

theorem enterLeaving (h : s.HomeBounded) : s.enterLeaving.HomeBounded :=
  ((((h.leaveDelivery.withBus _).withCtl _).withHome HomeController.bounded_empty).withRoster _).loseSlots _ _

theorem submitLeave (h : s.HomeBounded) : s.submitLeave.HomeBounded := by
  unfold State.submitLeave
  split
  · exact h.enterLeaving.setResult _
  · exact h.setResult _

theorem endLeaving (h : s.HomeBounded) : s.endLeaving.HomeBounded :=
  h.of_fewer rfl rfl (fun _ he => he) (le_refl _)

/-! ## The bus access unit and the delivery unit -/

theorem beginAttempt (h : s.HomeBounded) (k : AttemptKind) (f : Frame) : (s.beginAttempt k f).HomeBounded :=
  h.withBus _

theorem attemptAddressed (h : s.HomeBounded) (q : OutQueue) (d : Station) (b : FrameBody) :
    (s.attemptAddressed q d b).HomeBounded :=
  (h.setSend _ _).beginAttempt _ _

theorem withPresenceDue (h : s.HomeBounded) (b : Bool) :
    (s.withDlv { s.dlv with presenceDue := b }).HomeBounded :=
  h.of_fewer rfl rfl (fun _ he => he) (le_refl _)

theorem withLeaveDue (h : s.HomeBounded) (b : Bool) : (s.withDlv { s.dlv with leaveDue := b }).HomeBounded :=
  h.of_fewer rfl rfl (fun _ he => he) (le_refl _)

theorem chooseAndSend (h : s.HomeBounded) : s.chooseAndSend.HomeBounded := by
  unfold State.chooseAndSend
  split
  · split
    · exact (h.withPresenceDue false).beginAttempt _ _
    · split
      · exact h.attemptAddressed _ _ _
      · split
        · exact h.attemptAddressed _ _ _
        · exact h
  · split
    · exact (h.withLeaveDue false).beginAttempt _ _
    · exact h
  · exact h
  · exact h

theorem acceptStarted (h : s.HomeBounded) (d : Station) (f : StartedFrame) : (s.acceptStarted d f).HomeBounded := by
  unfold State.acceptStarted
  dsimp only
  split
  · exact (h.setSend _ _).setPeer _ _
  · exact h.setSend _ _

theorem frameAccepted (h : s.HomeBounded) (d : Station) (q : OutQueue) (f : StartedFrame) :
    (s.frameAccepted d q f).HomeBounded := by
  have accepted := h.acceptStarted d f
  cases q with
  | response => exact accepted.of_fewer rfl rfl (fun _ he => he) List.length_eraseP_le
  | request =>
    unfold State.frameAccepted
    dsimp only
    split
    · exact accepted
    · refine HomeBounded.requestDeparted ?_ _ _
      exact accepted.of_fewer rfl rfl (fun _ he => List.mem_of_mem_eraseP he) (le_refl _)

theorem frameNotTaken (h : s.HomeBounded) (d : Station) (q : OutQueue) (x : LastAnswer) :
    (s.frameNotTaken d q x).HomeBounded := by
  have answered : (if x = .unheard then
      (s.setSend d { s.sendRecord d with lastAnswer := x, holdOff := some Config.holdOffBits }).setPresenceDue
      else s.setSend d { s.sendRecord d with lastAnswer := x, holdOff := some Config.holdOffBits }).HomeBounded := by
    split
    · exact (h.setSend _ _).setPresenceDue
    · exact h.setSend _ _
  unfold State.frameNotTaken
  dsimp only
  split
  · split
    · exact answered.acquireNotTaken _
    · exact answered
  · exact answered
  · exact answered

theorem frameUnanswered (h : s.HomeBounded) (d : Station) : (s.frameUnanswered d).HomeBounded := by
  unfold State.frameUnanswered
  dsimp only
  split
  · exact (h.setSend _ _).purge _ _
  · exact h.setSend _ _

theorem addressedOutcome (h : s.HomeBounded) (d : Station) (q : OutQueue) (f : StartedFrame) (o : AttemptOutcome) :
    (s.addressedOutcome d q f o).HomeBounded := by
  cases o with
  | answered r =>
    cases r with
    | accept => exact h.frameAccepted d q f
    | busy => exact h.frameNotTaken d q .busy
    | unheard => exact h.frameNotTaken d q .unheard
    | reject => exact h.purge d .disowned
  | noAnswer => exact h.frameUnanswered d
  | collision => exact h.frameUnanswered d
  | broadcastSent => exact h

/-- The outcome of an attempt is applied (R120 to R125, R163). -/
theorem applyOutcome (h : s.HomeBounded) (a : Attempt) : (s.applyOutcome a).HomeBounded := by
  unfold State.applyOutcome
  split
  · exact h
  · cases a.kind with
    | presence =>
      dsimp only
      split
      · exact h.setPresenceDue
      · exact h.withRoster _
    | leave =>
      dsimp only
      split
      · exact h.withLeaveDue true
      · exact h.endLeaving
    | addressed d q =>
      dsimp only
      split
      · exact h.addressedOutcome d q _ _
      · exact h

theorem endAttempt (h : s.HomeBounded) : s.endAttempt.HomeBounded := by
  unfold State.endAttempt
  split
  · exact h
  · exact (h.withBus _).applyOutcome _

theorem closeWindow (h : s.HomeBounded) : s.closeWindow.HomeBounded := h.endAttempt.withBus _

theorem readBack (h : s.HomeBounded) (bit : Nat) : (s.readBack bit).HomeBounded := by
  have ack : (s.ackMismatch bit).HomeBounded := h.of_same (by simp) (by simp) (by simp)
  unfold State.readBack
  split
  · split
    · unfold State.frameMismatch
      dsimp only
      split
      · exact (h.withBus _).endAttempt
      · exact h.withBus _
    · exact ack
  · exact ack

theorem ownFrameEnds (h : s.HomeBounded) : s.ownFrameEnds.HomeBounded := h.of_same (by simp) (by simp) (by simp)

theorem beginAck (h : s.HomeBounded) : s.beginAck.HomeBounded := by
  unfold State.beginAck
  split
  · exact h
  · exact h.onlyIf (h.withBus _)

/-! ## The home steps -/

/-- One response routed fills at most one entry of the outbound response queue (R22). -/
theorem length_responses_routeResponse (s : State) (e : OutResponse) :
    (s.routeResponse e).dlv.responses.length ≤ s.dlv.responses.length + 1 := by
  unfold State.routeResponse
  split
  · simp
  · split
    · simp [State.appendResponse]
    · exact Nat.le_succ _

theorem routeResponse (h : s.HomeBounded) (e : OutResponse)
    (room : s.dlv.responses.length + 1 ≤ Config.outboundEntries) : (s.routeResponse e).HomeBounded := by
  have bound := (length_responses_routeResponse s e).trans room
  unfold State.routeResponse at bound ⊢
  split
  · exact h.applyResponse _ _
  · split
    · next there answered =>
      rw [if_neg there, if_pos answered] at bound
      exact ⟨h.home, h.requestValues, h.owedValues, bound⟩
    · exact h

/-- The responses of a step are routed, the queue having room for each (R21, R22). -/
theorem routeResponses (h : s.HomeBounded) (es : List OutResponse)
    (room : s.dlv.responses.length + es.length ≤ Config.outboundEntries) : (s.routeResponses es).HomeBounded := by
  induction es generalizing s with
  | nil => exact h
  | cons e es ih =>
    rw [List.length_cons] at room
    have one := length_responses_routeResponse s e
    exact ih (h.routeResponse e (by omega)) (by omega)

/-- A lawful step is carried out while sixteen response entries are free (R21, R35). -/
theorem carryOut (h : s.HomeBounded) (inbound : List InboundRequest) (x : HomeStep)
    (sub : inbound.Sublist s.home.inbound) (law : x.lawful) (room : s.roomForStep = true) :
    (s.carryOut inbound x).HomeBounded := by
  obtain ⟨table, responses⟩ := law
  have stepped : ({ s.home with inbound := inbound, table := x.table } : HomeController).Bounded :=
    { h.home.of_fewer (x := { s.home with inbound := inbound }) rfl sub with table := table }
  refine HomeBounded.routeResponses (h.withHome stepped) _ ?_
  simp only [roomForStep, decide_eq_true_eq] at room
  simp only [dlv_withHome]
  omega

/-- A service step finds its room (R21). -/
theorem room_of_serviceAllowed (s : State) (h : ¬ s.serviceAllowed = false) : s.roomForStep = true := by
  simp only [serviceAllowed, Bool.not_eq_false, Bool.and_eq_true] at h
  exact h.2

theorem serveAcquire (h : s.HomeBounded) : s.serveAcquire.HomeBounded := by
  unfold State.serveAcquire
  split
  · exact h
  · next allowed =>
    split
    · next rest head =>
      exact h.carryOut rest _ (head ▸ List.sublist_cons_self _ _)
        (acquireStep_lawful _ _ _ _ _ _ _ _ h.home.table) (room_of_serviceAllowed s allowed)
    · exact h

theorem serveRelease (h : s.HomeBounded) : s.serveRelease.HomeBounded := by
  unfold State.serveRelease
  split
  · exact h
  · next allowed =>
    split
    · next rest head =>
      have value := h.home.inboundValues _ (head ▸ List.mem_cons_self)
      exact h.carryOut rest _ (head ▸ List.sublist_cons_self _ _)
        (releaseStep_lawful _ _ _ _ _ _ _ h.home.table value) (room_of_serviceAllowed s allowed)
    · exact h

theorem serveCancel (h : s.HomeBounded) : s.serveCancel.HomeBounded := by
  unfold State.serveCancel
  split
  · exact h
  · next allowed =>
    split
    · next rest head =>
      exact h.carryOut rest _ (head ▸ List.sublist_cons_self _ _)
        (cancelStep_lawful _ _ _ _ h.home.table) (room_of_serviceAllowed s allowed)
    · exact h

theorem stepWalk (h : s.HomeBounded) : s.stepWalk.HomeBounded := by
  unfold State.stepWalk
  split
  · exact h
  · next taken =>
    have room : s.roomForStep = true := by simpa using (not_or.mp taken).1
    split
    · exact h
    · next w _ =>
      split
      · exact h.withHome h.home.settleWalk
      · next e found =>
        have law := visitStep_lawful _ w.station e h.home.table (List.mem_of_find?_eq_some found)
        have visited := h.carryOut s.home.inbound _ (.refl _) law room
        exact visited.withHome (HomeController.Bounded.settleWalk (visited.home.of_fewer rfl (.refl _)))

theorem moveLoopback (h : s.HomeBounded) : s.moveLoopback.HomeBounded := by
  unfold State.moveLoopback
  split
  · exact h
  · next taken =>
    split
    · exact h
    · next e found =>
      have room := Nat.lt_of_not_le (not_or.mp taken).2
      have value := h.requestValues e (List.mem_of_find?_eq_some found)
      refine HomeBounded.requestDeparted ?_ _ _
      exact (h.withHome (h.home.queue ⟨s.own, e.body⟩ room value)).of_fewer rfl rfl
        (fun _ he => List.mem_of_mem_eraseP he) (le_refl _)

/-! ## Receipts -/

/-- A frame is taken when a request finds a free inbound entry and carries a value block (R128, step 8). -/
theorem takeFrame (h : s.HomeBounded) (p : Station) (f : Frame)
    (room : ∀ r, f.body = .request r →
      s.home.inbound.length < Config.inboundEntries ∧ r.valueLength ≤ Config.valueBytes) :
    (s.takeFrame p f).HomeBounded := by
  have synced : ∀ x : State, x.HomeBounded →
      (if f.sync then x.setPeer p { x.peer p with syncIn := false } else x).HomeBounded := by
    intro x hx
    split
    · exact hx.setPeer _ _
    · exact hx
  have answered := (synced _ (h.setReceive p (some { sequence := f.sequence, sync := f.sync }))).withBus
  unfold State.takeFrame
  cases hb : f.body with
  | request r =>
    obtain ⟨free, value⟩ := room r hb
    refine (answered _).withHome ((answered _).home.queue ⟨p, r⟩ ?_ value)
    dsimp only
    split <;> exact free
  | response r => exact (answered _).applyResponse p r
  | presence | leave | ack => exact answered _

/-- The values of a frame's requests fit (R11). -/
theorem admitFrame (h : s.HomeBounded) (p : Station) (f : Frame)
    (value : ∀ r, f.body = .request r → r.valueLength ≤ Config.valueBytes) : (s.admitFrame p f).HomeBounded := by
  unfold State.admitFrame
  split
  · split
    · exact h.withBus _
    · next room =>
      exact h.takeFrame p f fun r hr => ⟨Nat.lt_of_not_le room, value r hr⟩
  · next hb => exact h.takeFrame p f fun r hr => by simp [hb] at hr
  · exact h
  · exact h
  · exact h

theorem receiveChecks (h : s.HomeBounded) (p : Station) (f : Frame)
    (value : ∀ r, f.body = .request r → r.valueLength ≤ Config.valueBytes) : (s.receiveChecks p f).HomeBounded := by
  have answered (r : AckResult) : (s.dueAck p f r).HomeBounded := h.withBus _
  unfold State.receiveChecks
  cases (s.peer p).state with
  | unknown => exact answered .unheard
  | absent | mismatched => exact answered .reject
  | present =>
    dsimp only
    split
    · exact answered .reject
    · split
      · exact answered .accept
      · split
        · exact (h.purge p .disowned).admitFrame p f value
        · exact h.admitFrame p f value

theorem syncWaitNotice (h : s.HomeBounded) (p : Station) (w : Word) : (s.syncWaitNotice p w).HomeBounded := by
  unfold State.syncWaitNotice
  split
  · exact h.purge _ _
  · exact h

theorem presenceHeard (h : s.HomeBounded) (p : Station) (fresh : Bool) (e d w : Word) :
    (s.presenceHeard p fresh e d w).HomeBounded := by
  have found : (((s.setPeerState p .present).recordEpoch p e).syncWaitNotice p w).HomeBounded :=
    HomeBounded.syncWaitNotice ((h.setPeer _ _).setPeer _ _) p w
  unfold State.presenceHeard
  split
  · split
    · exact h.setPeer _ _
    · exact (h.purge _ _).setPeer _ _
  · cases (s.peer p).state with
    | unknown | absent | mismatched => exact found
    | present =>
      dsimp only
      split
      · exact HomeBounded.syncWaitNotice ((h.purge _ _).setPeer _ _) p w
      · exact h.syncWaitNotice p w

theorem leaveHeard (h : s.HomeBounded) (p : Station) : (s.leaveHeard p).HomeBounded := by
  unfold State.leaveHeard
  cases (s.peer p).state with
  | present | unknown => exact h.purge _ _
  | mismatched => exact h.setPeer _ _
  | absent => exact h

/-- A valid frame of a peer is handed on (R95). -/
theorem handOn (h : s.HomeBounded) (f : Frame)
    (value : ∀ r, f.body = .request r → r.valueLength ≤ Config.valueBytes) : (s.handOn f).HomeBounded := by
  have checked : (if f.addressee = some s.own then s.receiveChecks f.source f else s).HomeBounded := by
    split
    · exact h.receiveChecks _ f value
    · exact h
  have leaving : (if f.addressee = some s.own then s.answerWhileLeaving f.source f else s).HomeBounded := by
    split
    · exact h.of_same (by simp) (by simp) (by simp)
    · exact h
  have ack (n : Byte) (r : AckResult) : (s.ackReceived f n r).HomeBounded := h.of_same (by simp) (by simp) (by simp)
  unfold State.handOn
  cases s.ctl.state with
  | config => exact h
  | joining =>
    cases f.body with
    | presence e d w => exact h.of_same (by simp) (by simp) (by simp)
    | leave e => exact h.setPeer _ _
    | request | response | ack => exact h
  | online =>
    cases f.body with
    | request | response => exact checked
    | presence e d w => exact h.presenceHeard _ _ e d w
    | leave e => exact h.leaveHeard _
    | ack n r => exact ack n r
  | leaving =>
    cases f.body with
    | request | response => exact leaving
    | presence e d w => exact h.presenceHeard _ _ e d w
    | leave e => exact h.leaveHeard _
    | ack n r => exact ack n r

theorem fromSource (h : s.HomeBounded) (f : Frame)
    (value : ∀ r, f.body = .request r → r.valueLength ≤ Config.valueBytes) : (s.fromSource f).HomeBounded := by
  have restarted : (s.restartSilence f.source).HomeBounded := h.of_same (by simp) (by simp) (by simp)
  unfold State.fromSource
  split
  · exact h.withCtl _
  · exact restarted.handOn f value

theorem validFrame (h : s.HomeBounded) (f : Frame)
    (value : ∀ r, f.body = .request r → r.valueLength ≤ Config.valueBytes) : (s.validFrame f).HomeBounded := by
  have ended : ((s.arbitratedEnds f).fromSource f).HomeBounded := HomeBounded.fromSource (h.withBus _) f value
  unfold State.validFrame
  split
  · dsimp only
    split
    · exact ended.enterOnline
    · exact ended
  · exact h.fromSource f value

/-- A transmission is received (R90 to R95). -/
theorem receive (h : s.HomeBounded) (rx : Reception) : (s.receive rx).HomeBounded := by
  unfold State.receive
  split
  · exact h
  · dsimp only
    split
    · exact h.of_same (by simp) (by simp) (by simp)
    · next f checked =>
      exact HomeBounded.validFrame (h.withBus _) f fun r hr => valueLength_of_checkFrame _ rx f r checked hr

/-! ## The port and the timers -/

theorem submitAcquire (h : s.HomeBounded) : s.submitAcquire.HomeBounded := by
  unfold State.submitAcquire
  split
  · exact h.setResult _
  · split
    · split
      · exact h.setResult _
      · exact (h.openSlot _ _ _ _ _ _ _).setResult _
    · exact h.setResult _

theorem submitRelease (h : s.HomeBounded) : s.submitRelease.HomeBounded := by
  unfold State.submitRelease
  split
  · exact h.setResult _
  · split
    · next staged =>
      split
      · exact h.setResult _
      · split
        · exact h.setResult _
        · next hr =>
          split
          · exact (h.releaseSlot _ _ _ _ hr (s.stagedUpdate_length _ _ staged)).setResult _
          · exact h.setResult _
    · exact h.setResult _

theorem submitCancel (h : s.HomeBounded) : s.submitCancel.HomeBounded := by
  unfold State.submitCancel
  split
  · exact h.setResult _
  · split
    · exact h.setResult _
    · split
      · exact h.setResult _
      · split
        · exact h.setResult _
        · split
          · exact (h.cancelSlot _ _).setResult _
          · exact h.setResult _

theorem submit (h : s.HomeBounded) (v : Word) : (s.submit v).HomeBounded := by
  unfold State.submit
  split
  · exact h.submitAcquire
  · exact h.submitRelease
  · exact h.submitCancel
  · exact h.submitStart
  · exact h.submitLeave
  · exact h

theorem acquireByWindow (h : s.HomeBounded) (m : LockMode) (l : LockId) : (s.acquireByWindow m l).HomeBounded := by
  unfold State.acquireByWindow
  split
  · exact h.withPort _
  · split
    · exact h.withPort _
    · exact (h.openSlot _ _ _ _ _ _ _).withPort _

theorem releaseByWindow (h : s.HomeBounded) (l : LockId) : (s.releaseByWindow l).HomeBounded := by
  unfold State.releaseByWindow
  split
  · exact h
  · split
    · exact h
    · split
      · exact h
      · next hr =>
        split
        · exact h.releaseSlot _ _ _ _ hr (Nat.zero_le _)
        · exact h

theorem windowLimit (h : s.HomeBounded) : s.windowLimit.HomeBounded := by
  unfold State.windowLimit
  split
  · exact h
  · exact (h.endRead _ _).cancelSlot _ _

theorem withdrawStrobe (h : s.HomeBounded) : s.withdrawStrobe.HomeBounded := by
  unfold State.withdrawStrobe
  split
  · exact h.withPort _
  · exact (h.withPort _).cancelSlot _ _

theorem writeConfig (h : s.HomeBounded) (f : ConfigBlock → ConfigBlock) : (s.writeConfig f).HomeBounded :=
  h.of_same (by simp) (by simp) (by simp)

/-- A port write, at whatever address (R168). -/
theorem writeWord (h : s.HomeBounded) (a : PortAddr) (v : Word) : (s.writeWord a v).HomeBounded := by
  have config (f : ConfigBlock → ConfigBlock) : (s.writeConfig f).HomeBounded := h.writeConfig f
  exact .ite (h.withPort _) <| .ite (config _) <| .ite (config _) <| .ite (config _) <| .ite (config _) <|
    .ite (config _) <| .ite (config _) <| .ite (h.withPort _) <| .ite (h.submit v) <| .ite h.popRecord <|
    .ite (h.withPort _) <| .ite (h.releaseByWindow _) h

theorem slotTimeout (h : s.HomeBounded) (t : Tag) : (s.slotTimeout t).HomeBounded := by
  unfold State.slotTimeout
  split
  · exact h
  · exact h.onlyIf (h.cancelSlot t _)

theorem silenceTimeout (h : s.HomeBounded) (p : Station) : (s.silenceTimeout p).HomeBounded := by
  have stopped := h.setPeer p { s.peer p with silenceTimer := none }
  refine h.onlyIf ?_
  unfold State.peerSilent
  split
  · exact stopped.purge _ _
  · exact stopped.purge _ _
  · exact stopped.setPeer _ _
  · exact stopped

/-! ## Every command -/

/-- Every command keeps the invariant. -/
theorem exec (h : s.HomeBounded) (i : Instr) {x : State} (done : exec i s = .next x) : x.HomeBounded := by
  cases i <;> cases done
  case acquire => exact h.portCycle fun _ => submitAcquire
  case release => exact h.portCycle fun _ => submitRelease
  case cancel => exact h.portCycle fun _ => submitCancel
  case start => exact h.portCycle fun _ => submitStart
  case leave => exact h.portCycle fun _ => submitLeave
  case pop => exact h.portCycle fun _ => popRecord
  case interruptEnable => exact h.portCycle fun _ hx => hx.withPort _
  case registerWrite a v => exact h.portCycle fun _ hx => hx.writeWord a v
  case acquireWindowRead m l => exact h.portCycle fun _ hx => hx.acquireByWindow m l
  case releaseWindowWrite l v => exact h.portCycle fun _ hx => hx.releaseByWindow l
  case readStrobeWithdrawal => exact h.running h.withdrawStrobe
  case windowWaitLimitExpiry => exact h.running h.windowLimit
  case powerOnReset straps => exact powerOn straps _
  case portReset => exact (powerOn _ _).withCtl _
  case portResetRelease => exact h.onlyIf (h.withCtl _)
  case slotTimerExpiry t => exact h.running (h.slotTimeout t)
  case acquireAtHome => exact h.running h.serveAcquire
  case releaseAtHome => exact h.running h.serveRelease
  case cancelAtHome => exact h.running h.serveCancel
  case walkStep => exact h.running h.stepWalk
  case loopbackMove => exact h.running h.moveLoopback
  case sendingOpportunity => exact h.running (h.onlyIf (HomeBounded.chooseAndSend (h.withBus _)))
  case readBackMismatch bit => exact h.running (h.readBack bit)
  case ownTransmissionEnd => exact h.running h.ownFrameEnds
  case windowClose => exact h.running (h.onlyIf h.closeWindow)
  case ackTransmission => exact h.running h.beginAck
  case holdOffExpiry d => exact h.running (h.onlyIf (h.setSend d _))
  case startupLineIdle => exact h.running (h.onlyIf (h.withBus _))
  case requestFrameReceipt ls => exact h.running (h.receive _)
  case responseFrameReceipt ls => exact h.running (h.receive _)
  case presenceReceipt ls => exact h.running (h.receive _)
  case leaveFrameReceipt ls => exact h.running (h.receive _)
  case ackReceipt ls => exact h.running (h.receive _)
  case malformedFrame ls => exact h.running (h.receive _)
  case presenceTimerExpiry => exact h.running (h.onlyIf (h.setPresenceDue.withRoster _))
  case silenceTimerExpiry p => exact h.running (h.silenceTimeout p)
  case listenTimerExpiry => exact h.running (h.onlyIf h.enterOnline)
  case leavingTimerExpiry => exact h.running (h.onlyIf h.endLeaving)
  case transmissionBegin => exact h.running (h.onlyIf (h.withBus _))

/-- Every step keeps the invariant. -/
theorem step (h : s.HomeBounded) {x : State} (done : step s = .next x) : x.HomeBounded := by
  unfold Machine.step at done
  split at done
  · cases done
    exact h
  · exact (h.withPending _).exec _ done

end HomeBounded
end State

/-- Settles O56: the invariant with its parts named, which every operation and so every command keeps. -/
theorem homeInvKept : Obligations.HomeInvKept := by
  intro s t inv room done
  exact t.homeBounded_iff.mp (((s.homeBounded_iff).mpr ⟨inv, room⟩).step done)

end Sys2Proof.Machine

/-! # START and LEAVE at the port (R3, R8, R156, R158, R162) -/

namespace Sys2Proof.Machine

/-! ## The checks of START, in their order -/

/-- Check 1 of R156. -/
theorem epochOk_iff (c : ConfigBlock) (previous : Option Word) :
    epochOk c previous = true ↔ c.epoch ≠ 0#16 ∧ previous ≠ some c.epoch := by
  simp [epochOk]

/-- Check 2 of R156. -/
theorem ConfigBlock.timingOk_iff (c : ConfigBlock) :
    c.timingOk = true ↔ 1 ≤ c.presenceInterval.toNat ∧ c.presenceInterval.toNat ≤ 250 ∧
      2 ≤ c.silenceLimit.toNat ∧ c.silenceLimit.toNat ≤ 8 ∧
      1 ≤ c.windowWaitLimit.toNat ∧ c.windowWaitLimit.toNat ≤ 255 := by
  simp [ConfigBlock.timingOk, and_assoc]

/-- A block whose epoch fails is refused by it. -/
theorem startRefusal_badEpoch (c : ConfigBlock) (previous : Option Word)
    (h : ¬ (c.epoch ≠ 0#16 ∧ previous ≠ some c.epoch)) : startRefusal c previous = .badEpoch := by
  rw [← epochOk_iff, Bool.not_eq_true] at h
  simp [startRefusal, h]

/-- A block whose epoch passes and whose timing fails is refused by the timing. -/
theorem startRefusal_badTiming (c : ConfigBlock) (previous : Option Word)
    (epoch : c.epoch ≠ 0#16 ∧ previous ≠ some c.epoch) (h : c.timingOk = false) :
    startRefusal c previous = .badTiming := by
  rw [← epochOk_iff] at epoch
  simp [startRefusal, epoch, h]

/-- A block whose epoch and timing pass and whose map fails is refused by the map. -/
theorem startRefusal_badMap (c : ConfigBlock) (previous : Option Word)
    (epoch : c.epoch ≠ 0#16 ∧ previous ≠ some c.epoch) (timing : c.timingOk = true) (h : ¬ c.mapSound) :
    startRefusal c previous = .badMap := by
  rw [← epochOk_iff] at epoch
  rw [← c.mapOk_iff, Bool.not_eq_true] at h
  simp [startRefusal, epoch, timing, h]

/-- A block that passes the three checks is not refused. -/
theorem startRefusal_none (c : ConfigBlock) (previous : Option Word)
    (epoch : c.epoch ≠ 0#16 ∧ previous ≠ some c.epoch) (timing : c.timingOk = true) (map : c.mapSound) :
    startRefusal c previous = .none := by
  rw [← epochOk_iff] at epoch
  rw [← c.mapOk_iff] at map
  simp [startRefusal, epoch, timing, map]

/-! ## The two commands at a free port -/

/-- A START at a free port is its submission, with the data lines released. -/
theorem exec_start_of_free (s : State) (free : s.portFree) : exec .start s = .next s.cycleTaken.submitStart :=
  congrArg Host.Outcome.next (portCycle_of_free s _ free)

/-- A START that a check refuses stores the refusal and its result. -/
theorem exec_start_refused (s : State) (free : s.portFree) (config : s.ctl.state = .config) (x : StartRefusal)
    (refused : startRefusal s.ctl.cfg s.ctl.previousEpoch = x) (fails : x ≠ .none) :
    exec .start s = .next { s.answered x.result with ctl := { s.ctl with lastStartRefusal := x } } := by
  have taken : ¬ s.cycleTaken.ctl.state ≠ .config := not_not_intro config
  rw [exec_start_of_free s free, State.submitStart, if_neg taken, State.ctl_cycleTaken, refused]
  cases x with
  | none => exact absurd rfl fails
  | badEpoch | badTiming | badMap => rfl

/-- A START that no check refuses succeeds. -/
theorem exec_start_accepted (s : State) (free : s.portFree) (config : s.ctl.state = .config)
    (passes : startRefusal s.ctl.cfg s.ctl.previousEpoch = .none) :
    exec .start s = .next s.cycleTaken.startSucceeds := by
  have taken : ¬ s.cycleTaken.ctl.state ≠ .config := not_not_intro config
  rw [exec_start_of_free s free, State.submitStart, if_neg taken, State.ctl_cycleTaken, passes]

/-- A START submitted outside CONFIG is refused. -/
theorem exec_start_outside_config (s : State) (free : s.portFree) (other : s.ctl.state ≠ .config) :
    exec .start s = .next (s.answered .notInConfig) := by
  have taken : s.cycleTaken.ctl.state ≠ .config := other
  rw [exec_start_of_free s free, State.submitStart, if_pos taken]
  rfl

/-- A LEAVE submitted outside ONLINE is refused. -/
theorem exec_leave_outside_online (s : State) (free : s.portFree) (other : s.ctl.state ≠ .online) :
    exec .leave s = .next (s.answered .notOnline) := by
  have taken : exec .leave s = .next s.cycleTaken.submitLeave :=
    congrArg Host.Outcome.next (portCycle_of_free s _ free)
  have outside : ¬ s.cycleTaken.ctl.state = .online := other
  rw [taken, State.submitLeave, if_neg outside]
  rfl

/-- Settles O13, by the checks in their order. -/
theorem startAndLeaveRefused : Obligations.StartAndLeaveRefused := by
  intro s free
  refine ⟨exec_leave_outside_online s free, exec_start_outside_config s free, fun config => ?_⟩
  refine ⟨fun fails => ?_, fun nonzero differs => ⟨fun fails => ?_, fun timing fails => ?_⟩⟩
  · exact exec_start_refused s free config .badEpoch (startRefusal_badEpoch _ _ (by tauto)) (by simp)
  · rw [← ConfigBlock.timingOk_iff, Bool.not_eq_true] at fails
    exact exec_start_refused s free config .badTiming (startRefusal_badTiming _ _ ⟨nonzero, differs⟩ fails) (by simp)
  · exact exec_start_refused s free config .badMap (startRefusal_badMap _ _ ⟨nonzero, differs⟩ timing fails) (by simp)

/-! ## The digest of the map taken (R8) -/

namespace ConfigBlock

/-- A range of a sound map stands in the digest by the bytes of its record. -/
theorem digestBytes_toRange (c : ConfigBlock) (h : c.mapSound) (k : Fin 8) (hk : c.selects k) :
    (c.ranges.get k).toRange.digestBytes = c.rangeBytes k := by
  obtain ⟨first, last, home⟩ := c.toRange_fits h k hk
  have wide (l : LockId) (w : Word) (e : l.toNat = w.toNat) : lockWord l = w := by
    apply BitVec.eq_of_toNat_eq
    simp only [lockWord, BitVec.toNat_setWidth]
    omega
  have station (p : Station) (w : Word) (e : p.val = w.toNat) : stationWord p = w := by
    apply BitVec.eq_of_toNat_eq
    simp only [stationWord, BitVec.toNat_ofNat]
    omega
  rw [MapRange.digestBytes, wide _ _ first, wide _ _ last, station _ _ home, rangeBytes]

/-- Selected ranges of a sound map with one first lock ID are one. -/
theorem eq_of_first_eq (c : ConfigBlock) (h : c.mapSound) (j k : Fin 8) (hj : c.selects j) (hk : c.selects k)
    (e : (c.ranges.get j).first = (c.ranges.get k).first) : j = k := by
  obtain ⟨_, _, ordered, apart⟩ := h
  by_contra differ
  have inJ := (ordered j hj).1
  have inK := (ordered k hk).1
  exact apart j k hj hk differ (c.ranges.get j).first.toNat ⟨⟨le_refl _, inJ⟩, by rw [e], by rwa [e]⟩

/-- A range is in the map exactly when it is that of a selected record. -/
theorem mem_toMap (c : ConfigBlock) (x : MapRange) :
    x ∈ c.toMap ↔ ∃ k, c.selects k ∧ (c.ranges.get k).toRange = x := by
  simp only [toMap, List.mem_map, mem_selected]
  constructor
  · rintro ⟨_, ⟨k, hk, rfl⟩, rfl⟩
    exact ⟨k, hk, rfl⟩
  · rintro ⟨k, hk, rfl⟩
    exact ⟨_, ⟨k, hk, rfl⟩, rfl⟩

/-- The sorted ranges of a map are those of the selected records in some order of their places. -/
theorem exists_places (c : ConfigBlock) :
    ∃ places : List { k : Fin 8 // c.selects k },
      places.map (fun k => (c.ranges.get k.val).toRange) = sortRanges c.toMap := by
  have reached : sortRanges c.toMap ∈
      Set.range (List.map fun k : { k : Fin 8 // c.selects k } => (c.ranges.get k.val).toRange) := by
    rw [Set.range_list_map]
    intro x hx
    obtain ⟨k, hk, e⟩ := (c.mem_toMap x).mp ((mem_sortRanges x _).mp hx)
    exact ⟨⟨k, hk⟩, e⟩
  exact reached

/-- The digest of a sound map is the CRC over its selected ranges in ascending order of their first lock IDs (R8). -/
theorem mapDigest_toMap (c : ConfigBlock) (h : c.mapSound) :
    ∃ order : List (Fin 8), (∀ k, k ∈ order ↔ c.selects k) ∧
      order.Pairwise (fun j k => (c.ranges.get j).first.toNat < (c.ranges.get k).first.toNat) ∧
      mapDigest c.toMap = crc16 (order.flatMap c.rangeBytes) := by
  obtain ⟨places, sorted⟩ := c.exists_places
  refine ⟨places.map Subtype.val, fun k => ⟨?_, fun hk => ?_⟩, ?_, ?_⟩
  · simp only [List.mem_map]
    rintro ⟨j, _, rfl⟩
    exact j.property
  · have present : (c.ranges.get k).toRange ∈ sortRanges c.toMap :=
      (mem_sortRanges _ _).mpr ((c.mem_toMap _).mpr ⟨k, hk, rfl⟩)
    rw [← sorted, List.mem_map] at present
    obtain ⟨j, hj, same⟩ := present
    have first := congrArg (fun r => r.first.toNat) same
    simp only [(c.toRange_fits h j.val j.property).1, (c.toRange_fits h k hk).1] at first
    have e := c.eq_of_first_eq h j.val k j.property hk (BitVec.eq_of_toNat_eq first)
    exact e ▸ List.mem_map_of_mem hj
  · have ascending := sortRanges_ascending c.toMap (c.toMap_firsts h)
    rw [← sorted, List.pairwise_map] at ascending
    rw [List.pairwise_map]
    refine ascending.imp fun {j k} less => ?_
    rwa [(c.toRange_fits h j.val j.property).1, (c.toRange_fits h k.val k.property).1] at less
  · rw [mapDigest, ← sorted, List.flatMap_map, List.flatMap_map]
    exact congrArg crc16 (List.flatMap_congr fun k _ => c.digestBytes_toRange h k.val k.property)

/-- Sound maps of the same selected records have one digest. -/
theorem mapDigest_of_same_ranges (c d : ConfigBlock) (hc : c.mapSound) (hd : d.mapSound)
    (same : ∀ r : RangeRecord, (∃ k, c.selects k ∧ c.ranges.get k = r) ↔ ∃ k, d.selects k ∧ d.ranges.get k = r) :
    mapDigest c.toMap = mapDigest d.toMap := by
  have members : ∀ x, x ∈ sortRanges c.toMap ↔ x ∈ sortRanges d.toMap := by
    intro x
    simp only [mem_sortRanges, toMap, List.mem_map, mem_selected, same]
  rw [mapDigest, mapDigest, ascending_unique _ _ (sortRanges_ascending _ (c.toMap_firsts hc))
    (sortRanges_ascending _ (d.toMap_firsts hd)) members]

end ConfigBlock

/-- Settles O12, by the checks that pass, the lookup's lemma and the digest's. -/
theorem startEntersJoining : Obligations.StartEntersJoining := by
  refine ⟨fun s free config nonzero differs timing sound => ?_, ConfigBlock.mapDigest_of_same_ranges⟩
  have passes := startRefusal_none _ _ ⟨nonzero, differs⟩ timing sound
  refine ⟨s.cycleTaken.startSucceeds, exec_start_accepted s free config passes, rfl, fun p hp => ?_, rfl,
    rfl, rfl, rfl, rfl, rfl, rfl, ConfigBlock.homeOf_toMap_iff _ sound, ConfigBlock.mapDigest_toMap _ sound⟩
  simp [State.peer, State.startSucceeds, State.setResult, PeerRecord.unheard, hp]

end Sys2Proof.Machine

/-! # The home's answers to an ACQUIRE, and the way of a response (R6, R17, R22 to R25, R53 to R58) -/

namespace Sys2Proof.Machine

/-! ## An ACQUIRE that is not granted -/

section AcquireStep

variable {own : Station} {map : List MapRange} {table : List HomeEntry} {l : LockId} {e : HomeEntry}
variable (p : Station) (t : Tag) (m : LockMode) (w : WaitKind)

/-- A lock with another home, or with none, is denied (R6, R23). -/
theorem acquireStep_notHome (elsewhere : homeOf map l ≠ some own) :
    acquireStep own map table p t l m w = answerOnly table p (.deny l t .notHome) := by
  rw [acquireStep, if_pos elsewhere]

/-- A lock without an entry is denied while no entry is free (R14, R24). -/
theorem acquireStep_tableFull (home : homeOf map l = some own) (new : findEntry table l = none)
    (full : Config.homeEntries ≤ table.length) :
    acquireStep own map table p t l m w = answerOnly table p (.deny l t .tableFull) := by
  simp only [acquireStep, home, new, if_pos full, ne_eq, not_true_eq_false, if_false]

/-- A station that holds or awaits the lock already is denied (R23). -/
theorem acquireStep_duplicate (home : homeOf map l = some own) (found : findEntry table l = some e)
    (twice : e.involves p = true) :
    acquireStep own map table p t l m w = answerOnly table p (.deny l t .duplicate) := by
  simp only [acquireStep, home, found, if_pos twice, ne_eq, not_true_eq_false, if_false]

/-- A TRY for a lock that cannot be granted is denied (R25). -/
theorem acquireStep_busy (home : homeOf map l = some own) (found : findEntry table l = some e)
    (new : e.involves p = false) (held : e.state ≠ .free)
    (blocked : ¬ (m = .shared ∧ e.state = .shared ∧ e.waiters = [])) :
    acquireStep own map table p t l m .tryOnce = answerOnly table p (.deny l t .busy) := by
  simp only [acquireStep, home, found, new, if_neg held, if_neg blocked, ne_eq, not_true_eq_false, if_false,
    Bool.false_eq_true]

/-- A QUEUE for a lock that cannot be granted is denied while no waiter record is free (R17, R25). -/
theorem acquireStep_poolFull (home : homeOf map l = some own) (found : findEntry table l = some e)
    (new : e.involves p = false) (held : e.state ≠ .free)
    (blocked : ¬ (m = .shared ∧ e.state = .shared ∧ e.waiters = []))
    (full : Config.waiterRecords ≤ waitersInUse table) :
    acquireStep own map table p t l m .queue = answerOnly table p (.deny l t .poolFull) := by
  simp only [acquireStep, home, found, new, if_neg held, if_neg blocked, if_pos full, ne_eq, not_true_eq_false,
    if_false, Bool.false_eq_true]

/-- A QUEUE for a lock that cannot be granted otherwise waits at the queue's tail (R18, R25). -/
theorem acquireStep_queued (home : homeOf map l = some own) (found : findEntry table l = some e)
    (new : e.involves p = false) (held : e.state ≠ .free)
    (blocked : ¬ (m = .shared ∧ e.state = .shared ∧ e.waiters = []))
    (room : waitersInUse table < Config.waiterRecords) :
    acquireStep own map table p t l m .queue =
      { table := putEntry { e with waiters := e.waiters ++ [{ station := p, tag := t, mode := m }] } table,
        responses := [] } := by
  simp only [acquireStep, home, found, new, if_neg held, if_neg blocked, if_neg (Nat.not_le.mpr room), ne_eq,
    not_true_eq_false, if_false, Bool.false_eq_true]

end AcquireStep

/-- A service step that may be taken on an ACQUIRE at the head (R21, R23). -/
theorem exec_acquireAtHome (s : State) (p : Station) (t : Tag) (l : LockId) (m : LockMode) (w : WaitKind)
    (rest : List InboundRequest) (ready : s.serviceReady)
    (head : s.home.inbound = { source := p, body := .acquire l t m w } :: rest) :
    exec .acquireAtHome s =
      .next (s.carryOut rest (acquireStep s.own s.ctl.activeMap s.home.table p t l m w)) := by
  have taken : exec .acquireAtHome s = .next s.serveAcquire :=
    congrArg Host.Outcome.next (running_of_working s _ ready.1)
  rw [taken, State.serveAcquire, s.serviceAllowed_of_ready ready, head]
  rfl

/-- Settles O26, case by case of the step that does not grant. -/
theorem acquireAtHomeDeniesOrQueues : Obligations.AcquireAtHomeDeniesOrQueues := by
  intro s p t l m w rest ready head
  rw [exec_acquireAtHome s p t l m w rest ready head]
  refine ⟨fun elsewhere => ?_, fun home => ⟨fun new full => ?_, fun e found => ⟨fun twice => ?_, ?_⟩⟩⟩
  · rw [acquireStep_notHome p t m w elsewhere]
    rfl
  · rw [acquireStep_tableFull p t m w home new full]
    rfl
  · rw [acquireStep_duplicate p t m w home found twice]
    rfl
  · intro new held blocked
    refine ⟨?_, ?_, ?_⟩
    · rintro rfl
      rw [acquireStep_busy p t m home found new held blocked]
      rfl
    · rintro rfl full
      rw [acquireStep_poolFull p t m home found new held blocked full]
      rfl
    · rintro rfl room
      rw [acquireStep_queued p t m home found new held blocked room]
      rfl

/-! ## The routing of a response (R22) -/

/-- A response is deliverable to a PRESENT peer of which no purge is pending or running (R22). -/
theorem State.responseDeliverable_iff (s : State) (d : Station) :
    s.responseDeliverable d = true ↔ (s.peer d).state = .present ∧ d ∉ s.home.pendingPurge ∧
      ∀ w, s.home.walk = some w → w.station ≠ d := by
  cases hw : s.home.walk <;> simp [State.responseDeliverable, hw, and_assoc]

/-! ## What the request controller makes of a response (R53 to R58) -/

namespace State

/-- A slot that finishes with a record is DONE, holding one record more (R73, R77). -/
theorem finishSlot_posting (s : State) (t : Tag) (r : SlotRecord) (k : CompletionKind) (why : Reason) (g : Word)
    (v : List Byte) : s.finishSlot t r (some (r.toRecord t k why g v)) = s.posting t r k why g v r.ended := by
  simp only [finishSlot, SlotRecord.finished, SlotRecord.counting, Option.toList_some, List.length_singleton,
    Nat.add_one_ne_zero, false_and, if_false]
  rfl

/-- A slot that finishes without a record (R77). -/
theorem finishSlot_quietly (s : State) (t : Tag) (r : SlotRecord) :
    s.finishSlot t r none = s.slotNow t (r.endedQuietly (frameStands t s.dlv.requests)) := by
  simp only [finishSlot, postRecords, Option.toList_none, List.append_nil]
  rfl

/-- A marked slot that a response answers goes to CANCELLING (R58, R64; log 29). -/
theorem applyToMarked_eq_markedAnswered (s : State) (t : Tag) (r : SlotRecord) :
    s.applyToMarked t r = s.markedAnswered t r := by
  unfold applyToMarked sendOrOwe markedAnswered
  split <;> rfl

/-- The read stalled for a slot ends with its result word (R187). -/
theorem endRead_of_stalled (s : State) (t : Tag) (n : Nat) (w : Word) (stalled : s.port.window = .stalled t n) :
    s.endRead t w = { s with port := { s.port with window := .idle, dataOut := some w } } := by
  have mine : s.readStalledFor t = true := by simp [readStalledFor, stalled]
  rw [endRead, if_pos mine]
  rfl

/-- The read stalled for a slot ends GRANTED (R187, R188). -/
theorem endReadGranted_of_stalled (s : State) (t : Tag) (n : Nat) (g : Word) (v : List Byte)
    (stalled : s.port.window = .stalled t n) :
    s.endReadGranted t g v = { s with port := { s.port with
      window := .idle, dataOut := some 0x0100#16, lastGrant := { generation := g, value := v } } } := by
  have mine : s.readStalledFor t = true := by simp [readStalledFor, stalled]
  have still : (s.withPort { s.port with lastGrant := { generation := g, value := v } }).port.window =
      .stalled t n := stalled
  rw [endReadGranted, if_pos mine, endRead_of_stalled _ t n _ still]
  rfl

/-- A response that matches no slot by tag, lock and home is an orphan (R53). -/
theorem applyResponse_orphan (s : State) (source : Station) (b : ResponseBody)
    (orphan : ∀ r, s.slot b.tag = some r → r.lock ≠ b.lock ∨ r.home ≠ source) : s.applyResponse source b = s := by
  unfold applyResponse
  cases hr : s.slot b.tag with
  | none => rfl
  | some r =>
    dsimp only
    rw [if_pos (orphan r hr)]

/-! ### A response whose slot does not expect it -/

section Discarded

variable {s : State} {t : Tag} {r : SlotRecord} {l : LockId} {source : Station} (hr : s.slot t = some r)

include hr

/-- A GRANT of a slot past its answer is discarded (R54). -/
theorem applyResponse_grant_past (m : LockMode) (g : Word) (v : List Byte) (past : r.pastAnswer) :
    s.applyResponse source (.grant l t m g v) = s := by
  rcases past with state | state | state | state <;>
    simp [applyResponse, ResponseBody.tag, ResponseBody.lock, hr, state]

/-- A DENY of a slot past its answer is discarded (R55). -/
theorem applyResponse_deny_past (why : DenyReason) (past : r.pastAnswer) :
    s.applyResponse source (.deny l t why) = s := by
  rcases past with state | state | state | state <;>
    simp [applyResponse, ResponseBody.tag, ResponseBody.lock, hr, state]

/-- A RELEASED of a slot in another state is discarded (R56). -/
theorem applyResponse_released_discarded (o : ReleasedOutcome) (other : r.state ≠ .releasing) :
    s.applyResponse source (.released l t o) = s := by
  simp only [applyResponse, ResponseBody.tag, hr]
  cases hs : r.state <;> simp [hs] at other ⊢

/-- A CANCELLED of a slot in another state is discarded (R57). -/
theorem applyResponse_cancelled_discarded (o : CancelledOutcome) (other : r.state ≠ .cancelling) :
    s.applyResponse source (.cancelled l t o) = s := by
  simp only [applyResponse, ResponseBody.tag, hr]
  cases hs : r.state <;> simp [hs] at other ⊢

end Discarded

/-! ### A response that matches its slot -/

section Matched

variable {s : State} {t : Tag} {r : SlotRecord} {l : LockId} {source : Station}
variable (hr : s.slot t = some r) (lock : r.lock = l) (home : r.home = source)

include hr lock home

/-- A GRANT is applied to a slot that awaits the answer (R54, R58). -/
theorem applyResponse_grant_answerable (m : LockMode) (g : Word) (v : List Byte) (awaits : r.answerable) :
    s.applyResponse source (.grant l t m g v) = s.applyGrant t r g v := by
  rcases awaits with waiting | ⟨pending, clear⟩ <;> simp [applyResponse, ResponseBody.tag, ResponseBody.lock, *]

/-- A DENY is applied to a slot that awaits the answer (R55, R58). -/
theorem applyResponse_deny_answerable (why : DenyReason) (awaits : r.answerable) :
    s.applyResponse source (.deny l t why) = s.applyDeny t r why := by
  rcases awaits with waiting | ⟨pending, clear⟩ <;> simp [applyResponse, ResponseBody.tag, ResponseBody.lock, *]

/-- A GRANT of a marked slot shows that the home has taken its ACQUIRE (R58, R64). -/
theorem applyResponse_grant_marked (m : LockMode) (g : Word) (v : List Byte) (pending : r.state = .pending)
    (marked : r.mark = true) : s.applyResponse source (.grant l t m g v) = s.markedAnswered t r := by
  rw [← applyToMarked_eq_markedAnswered]
  simp [applyResponse, ResponseBody.tag, ResponseBody.lock, *]

/-- A DENY of a marked slot shows that the home has taken its ACQUIRE (R58, R64). -/
theorem applyResponse_deny_marked (why : DenyReason) (pending : r.state = .pending) (marked : r.mark = true) :
    s.applyResponse source (.deny l t why) = s.markedAnswered t r := by
  rw [← applyToMarked_eq_markedAnswered]
  simp [applyResponse, ResponseBody.tag, ResponseBody.lock, *]

/-- A RELEASED finishes a RELEASING slot (R56). -/
theorem applyResponse_released (o : ReleasedOutcome) (releasing : r.state = .releasing) :
    s.applyResponse source (.released l t o) = s.finishSlot t r (releasedRecord t r o) := by
  simp [applyResponse, ResponseBody.tag, ResponseBody.lock, *]

/-- A CANCELLED finishes a CANCELLING slot (R57). -/
theorem applyResponse_cancelled (o : CancelledOutcome) (cancelling : r.state = .cancelling) :
    s.applyResponse source (.cancelled l t o) = s.finishSlot t r (cancelRecord t r (.cancelled o)) := by
  simp [applyResponse, ResponseBody.tag, ResponseBody.lock, *]

end Matched

/-! ### What is made of the slot -/

/-- A GRANT of a COMMAND slot posts its record (R54). -/
theorem applyGrant_command (s : State) (t : Tag) (r : SlotRecord) (g : Word) (v : List Byte)
    (command : r.origin = .command) :
    s.applyGrant t r g v = s.posting t r .granted .none g v
      { r with state := .held, timer := none, hold := some { generation := g, value := v } } := by
  obtain ⟨⟩ := r
  cases command
  rfl

/-- A GRANT of the WINDOW slot of the stalled read ends the read (R54, R187, R188). -/
theorem applyGrant_window (s : State) (t : Tag) (r : SlotRecord) (n : Nat) (g : Word) (v : List Byte)
    (window : r.origin = .window) (stalled : s.port.window = .stalled t n) :
    s.applyGrant t r g v =
      { s.slotNow t (some { r with
          state := .held, timer := none, hold := some { generation := g, value := v } }) with port := { s.port with
        window := .idle, dataOut := some 0x0100#16, lastGrant := { generation := g, value := v } } } := by
  obtain ⟨⟩ := r
  cases window
  exact endReadGranted_of_stalled (s.slotNow t _) t n g v stalled

/-- A DENY of a COMMAND slot finishes it with its record (R55). -/
theorem applyDeny_command (s : State) (t : Tag) (r : SlotRecord) (why : DenyReason) (command : r.origin = .command) :
    s.applyDeny t r why = s.posting t r .denied (.deny why) 0#16 [] r.ended := by
  simp only [applyDeny, command, finishSlot_posting]

/-- A DENY of the WINDOW slot of the stalled read finishes it and ends the read (R55, R187). -/
theorem applyDeny_window (s : State) (t : Tag) (r : SlotRecord) (n : Nat) (why : DenyReason)
    (window : r.origin = .window) (stalled : s.port.window = .stalled t n) :
    s.applyDeny t r why =
      { s.slotNow t (r.endedQuietly (frameStands t s.dlv.requests)) with port := { s.port with
        window := .idle, dataOut := some (wordOf 0x02#8 (Reason.deny why).code) } } := by
  simp only [applyDeny, window, finishSlot_quietly]
  exact endRead_of_stalled (s.slotNow t _) t n _ stalled

/-- The end of a release of a WINDOW slot with OK posts no record (R56). -/
theorem releasedRecord_quiet (t : Tag) (r : SlotRecord) (window : r.origin = .window) :
    releasedRecord t r .ok = none := by
  simp only [releasedRecord, window]

/-- Any other end of a release posts one, at the generation of the hold (R56). -/
theorem releasedRecord_posts (t : Tag) (r : SlotRecord) (o : ReleasedOutcome) (k : Hold) (held : r.hold = some k)
    (posts : r.origin = .command ∨ o ≠ .ok) :
    releasedRecord t r o =
      some (r.toRecord t (if o = .stale then .releaseRefused else .released) (.released o) k.generation []) := by
  cases o with
  | ok =>
    have command : r.origin = .command := posts.resolve_right (not_not_intro rfl)
    simp [releasedRecord, command, SlotRecord.heldGeneration, held]
  | valueIgnored => simp [releasedRecord, SlotRecord.heldGeneration, held]
  | stale => simp [releasedRecord, SlotRecord.heldGeneration, held]

/-- What a response of a home makes of the state, kind by kind (R53 to R58). -/
theorem responseEffect_applyResponse (s : State) (source : Station) (b : ResponseBody) :
    s.responseEffect source b (s.applyResponse source b) := by
  refine ⟨applyResponse_orphan s source b, fun r hr lock home => ?_⟩
  cases b with
  | grant l t m g v =>
    refine ⟨fun awaits command => ?_, fun n awaits window stalled => ?_, ?_, applyResponse_grant_past hr m g v⟩
    · exact (applyResponse_grant_answerable hr lock home m g v awaits).trans (s.applyGrant_command t r g v command)
    · exact (applyResponse_grant_answerable hr lock home m g v awaits).trans
        (s.applyGrant_window t r n g v window stalled)
    · exact applyResponse_grant_marked hr lock home m g v
  | deny l t why =>
    refine ⟨fun awaits command => ?_, fun n awaits window stalled => ?_, ?_, applyResponse_deny_past hr why⟩
    · exact (applyResponse_deny_answerable hr lock home why awaits).trans (s.applyDeny_command t r why command)
    · exact (applyResponse_deny_answerable hr lock home why awaits).trans
        (s.applyDeny_window t r n why window stalled)
    · exact applyResponse_deny_marked hr lock home why
  | released l t o =>
    change s.slot t = some r at hr
    change r.lock = l at lock
    refine ⟨fun releasing window ok => ?_, fun k releasing held posts => ?_, applyResponse_released_discarded hr o⟩
    · subst ok
      rw [applyResponse_released hr lock home .ok releasing, releasedRecord_quiet t r window, finishSlot_quietly]
    · rw [applyResponse_released hr lock home o releasing, releasedRecord_posts t r o k held posts,
        finishSlot_posting]
  | cancelled l t o =>
    change s.slot t = some r at hr
    change r.lock = l at lock
    refine ⟨fun cancelling => ?_, applyResponse_cancelled_discarded hr o⟩
    rw [applyResponse_cancelled hr lock home o cancelling]
    refine ⟨fun cause => ?_, fun cause => ?_, fun cause => ?_⟩
    · simp only [cancelRecord, cause, finishSlot_posting]
    · simp only [cancelRecord, cause, finishSlot_posting]
    · simp only [cancelRecord, cause, finishSlot_quietly]

end State

/-- Settles O31, by the branches of the routing and the effect of a response of this station's own home. -/
theorem responseRouting : Obligations.ResponseRouting := by
  refine ⟨fun s e => ⟨fun own => ?_, fun peer => ⟨fun deliverable => ?_, fun kept => ?_⟩⟩,
    fun s => ⟨rfl, fun _ _ => rfl⟩, fun s b => s.responseEffect_applyResponse s.own b⟩
  · rw [State.routeResponse, if_pos own]
  · rw [State.routeResponse, if_neg peer, if_pos ((s.responseDeliverable_iff _).mpr deliverable)]
    rfl
  · have undeliverable : ¬ s.responseDeliverable e.destination = true := by
      rw [s.responseDeliverable_iff]
      rintro ⟨present, noPurge, noWalk⟩
      rcases kept with absent | purged | ⟨w, walks, same⟩
      · exact absent present
      · exact noPurge purged
      · exact noWalk w walks same
    rw [State.routeResponse, if_neg peer, if_neg undeliverable]

end Sys2Proof.Machine

/-! # What the request controller can do (R46 to R71)

Every operation on slots, from a response to the loss of a home, changes slots, records, the frames of slots and the
stalled read, and nothing else. `State.Serves` says so once; the invariants of the life cycle and of the links to the
peers follow from it for all these operations alike. -/

namespace Sys2Proof.Machine

/-- What a slot can become while its home and origin stay: it does not open again, and its timer stays or stops. -/
structure SlotRecord.Becomes (r₀ r : SlotRecord) : Prop where
  home : r.home = r₀.home
  origin : r.origin = r₀.origin
  wasOpen : r.isOpen = true → r₀.isOpen = true
  timer : r.timer = none ∨ r.timer = r₀.timer

namespace SlotRecord.Becomes

variable {a b c : SlotRecord}

theorem refl (a : SlotRecord) : a.Becomes a := ⟨rfl, rfl, id, .inr rfl⟩

theorem trans (ab : a.Becomes b) (bc : b.Becomes c) : a.Becomes c where
  home := bc.home.trans ab.home
  origin := bc.origin.trans ab.origin
  wasOpen o := ab.wasOpen (bc.wasOpen o)
  timer := bc.timer.elim .inl fun same => ab.timer.imp same.trans same.trans

/-- A slot that finishes is DONE, with no timer (R77). -/
theorem of_finished {st : Bool} (h : a.finished st = some b) : a.Becomes b := by
  unfold SlotRecord.finished at h
  split at h <;> cases h
  exact ⟨rfl, rfl, by simp [SlotRecord.isOpen], .inl rfl⟩

/-- A slot that is settled and stays is as it was (R77). -/
theorem of_settled {st : Bool} (h : a.settled st = some b) : a.Becomes b := by
  unfold SlotRecord.settled at h
  split at h <;> cases h
  exact refl a

/-- Another count of records pending is no change of these. -/
theorem counted (a : SlotRecord) (n : Nat) : a.Becomes { a with recordsPending := n } := ⟨rfl, rfl, id, .inr rfl⟩

/-- A slot that is lost, or settled because it is DONE (R69 to R71). -/
theorem of_lose {t : Tag} {why : Reason} {st : Bool} (h : a.lose t why st = some b) : a.Becomes b := by
  unfold SlotRecord.lose at h
  split at h
  · exact (counted a _).trans (of_finished h)
  · exact of_settled h

end SlotRecord.Becomes

/-- A slot that is lost or settled is no longer open (R69 to R71). -/
theorem SlotRecord.isOpen_of_lose {a b : SlotRecord} {t : Tag} {why : Reason} {st : Bool}
    (h : a.lose t why st = some b) : b.isOpen = false := by
  unfold SlotRecord.lose at h
  split at h
  · unfold SlotRecord.finished at h
    split at h <;> cases h
    rfl
  · next done =>
    unfold SlotRecord.settled at h
    split at h <;> cases h
    simpa using done

/-- A slot awaits the outcome of the stalled read only while it is open (R68). -/
theorem SlotRecord.isOpen_of_awaitsRead {r : SlotRecord} (h : r.awaitsRead = true) : r.isOpen = true := by
  simp only [awaitsRead, decide_eq_true_eq] at h
  obtain ⟨_, ⟨state, _⟩ | state⟩ := h <;> simp [isOpen, state]

/-- What the request controller can do to a state: slots change as they may, request frames go, or come of open slots
and to their homes, and the stalled read goes on for the same slot or ends. -/
structure State.Serves (s x : State) : Prop where
  ctl : x.ctl = s.ctl
  roster : x.roster = s.roster
  home : x.home = s.home
  bus : x.bus = s.bus
  responses : x.dlv.responses = s.dlv.responses
  requests : ∀ e ∈ x.dlv.requests,
    e ∈ s.dlv.requests ∨ ∃ t r, s.slot t = some r ∧ r.isOpen = true ∧ e.destination = r.home
  slots : ∀ t r, x.slot t = some r → ∃ r₀, s.slot t = some r₀ ∧ r₀.Becomes r
  stall : ∀ t n, x.port.window = .stalled t n → s.port.window = .stalled t n ∧ x.port.dataOut = s.port.dataOut ∧
    ∀ r₀, s.slot t = some r₀ → r₀.awaitsRead = true → ∃ r, x.slot t = some r ∧ r.awaitsRead = true
  data : x.port.dataOut = s.port.dataOut ∨ ∃ t n, s.port.window = .stalled t n

namespace State

/-- The read stalled, if any, is stalled for the slot it names. -/
theorem readStalledFor_of_stalled {s : State} {t : Tag} {n : Nat} (h : s.port.window = .stalled t n) :
    s.readStalledFor t = true := by
  simp [readStalledFor, h]

/-- The end of a read does not concern the slots, nor they it. -/
theorem endRead_setSlot (s : State) (t u : Tag) (r : Option SlotRecord) (w : Word) :
    (s.setSlot u r).endRead t w = (s.endRead t w).setSlot u r := by
  have same : (s.setSlot u r).readStalledFor t = s.readStalledFor t := rfl
  unfold endRead
  rw [same]
  split <;> rfl

/-- A slot finishes the same before and after the end of a read. -/
theorem endRead_finishSlot (s : State) (t u : Tag) (r : SlotRecord) (rec : Option CompletionRecord) (w : Word) :
    (s.finishSlot u r rec).endRead t w = (s.endRead t w).finishSlot u r rec := by
  have same : (s.finishSlot u r rec).readStalledFor t = s.readStalledFor t := rfl
  unfold endRead
  rw [same]
  split <;> rfl

/-- After the end of the read of a slot none is stalled for it. -/
theorem readStalledFor_endRead (s : State) (t : Tag) (w : Word) : (s.endRead t w).readStalledFor t = false := by
  unfold endRead
  split
  · rfl
  · next other => simpa using other

/-- A window read that ends GRANTED does not concern the slots, nor they it. -/
theorem endReadGranted_setSlot (s : State) (t u : Tag) (r : Option SlotRecord) (g : Word) (v : List Byte) :
    (s.setSlot u r).endReadGranted t g v = (s.endReadGranted t g v).setSlot u r := by
  have same : (s.setSlot u r).readStalledFor t = s.readStalledFor t := rfl
  unfold endReadGranted
  rw [same]
  split
  · exact endRead_setSlot (s.withPort _) t u r _
  · rfl

/-- After a window read of a slot has ended GRANTED none is stalled for it. -/
theorem readStalledFor_endReadGranted (s : State) (t : Tag) (g : Word) (v : List Byte) :
    (s.endReadGranted t g v).readStalledFor t = false := by
  unfold endReadGranted
  split
  · exact readStalledFor_endRead _ t _
  · next other => simpa using other

/-- The port after a loss: the read stalled for a slot that is lost ends LOST, and any other goes on (R70). -/
theorem loseSlots_port (s : State) (affected : Station → Bool) (why : Reason) :
    ((s.loseSlots affected why).port = s.port ∧ ∀ t n r, s.port.window = .stalled t n → s.slot t = some r →
        r.isOpen = true → affected r.home = false) ∨
      ∃ t n r, s.port.window = .stalled t n ∧ s.slot t = some r ∧ affected r.home = true ∧ r.isOpen = true ∧
        (s.loseSlots affected why).port =
          { s.port with window := .idle, dataOut := some (resultWord CompletionKind.lost.code why) } := by
  unfold loseSlots
  dsimp only
  split
  · next idle => exact .inl ⟨rfl, fun _ _ _ stalled => by simp [idle] at stalled⟩
  · next t n stalled =>
    split
    · next r hr =>
      split
      · next lost =>
        refine .inr ⟨t, n, r, stalled, hr, lost.1, lost.2, ?_⟩
        rw [endRead, if_pos (by simp [readStalledFor, stalled])]
        rfl
      · next kept =>
        refine .inl ⟨rfl, fun u m a stalled' found isOpen => ?_⟩
        cases stalled.symm.trans stalled'
        cases hr.symm.trans found
        simpa [isOpen] using kept
    · next free =>
      refine .inl ⟨rfl, fun u m a stalled' found => ?_⟩
      cases stalled.symm.trans stalled'
      simp [free] at found

/-- Operations that leave the request controller leave its slots. -/
theorem slot_of_req {s x : State} (h : x.req = s.req) (t : Tag) : x.slot t = s.slot t := by
  rw [slot, h, slot]

namespace Serves

variable {s x y : State}

theorem refl (s : State) : s.Serves s where
  ctl := rfl
  roster := rfl
  home := rfl
  bus := rfl
  responses := rfl
  requests _ he := .inl he
  slots _ r hr := ⟨r, hr, .refl r⟩
  stall _ _ h := ⟨h, rfl, fun r₀ h₀ a => ⟨r₀, h₀, a⟩⟩
  data := .inl rfl

theorem trans (sx : s.Serves x) (xy : x.Serves y) : s.Serves y where
  ctl := xy.ctl.trans sx.ctl
  roster := xy.roster.trans sx.roster
  home := xy.home.trans sx.home
  bus := xy.bus.trans sx.bus
  responses := xy.responses.trans sx.responses
  requests e he := by
    rcases xy.requests e he with old | ⟨t, r, hr, isOpen, dest⟩
    · exact sx.requests e old
    · obtain ⟨r₀, h₀, step⟩ := sx.slots t r hr
      exact .inr ⟨t, r₀, h₀, step.wasOpen isOpen, dest.trans step.home⟩
  slots t r hr := by
    obtain ⟨r₁, h₁, step₁⟩ := xy.slots t r hr
    obtain ⟨r₀, h₀, step₀⟩ := sx.slots t r₁ h₁
    exact ⟨r₀, h₀, step₀.trans step₁⟩
  stall t n h := by
    obtain ⟨h₁, data₁, awaits₁⟩ := xy.stall t n h
    obtain ⟨h₀, data₀, awaits₀⟩ := sx.stall t n h₁
    refine ⟨h₀, data₁.trans data₀, fun r₀ hr₀ a₀ => ?_⟩
    obtain ⟨r₁, hr₁, a₁⟩ := awaits₀ r₀ hr₀ a₀
    exact awaits₁ r₁ hr₁ a₁
  data := by
    rcases xy.data with same | ⟨t, n, h⟩
    · rw [same]
      exact sx.data
    · exact .inr ⟨t, n, (sx.stall t n h).1⟩

theorem ite {c : Prop} [Decidable c] (hx : s.Serves x) (hy : s.Serves y) : s.Serves (if c then x else y) := by
  split <;> assumption

/-! ## The elementary changes -/

/-- Only the delivery unit changes, and no frame of it is new. -/
theorem withDlv (d : FrameDelivery) (responses : d.responses = s.dlv.responses)
    (requests : ∀ e ∈ d.requests, e ∈ s.dlv.requests) : s.Serves (s.withDlv d) :=
  { refl s with responses, requests := fun e he => .inl (requests e he) }

theorem setSend (p : Station) (r : SendRecord) : s.Serves (s.setSend p r) := withDlv _ rfl fun _ he => he

theorem postRecords (rs : List CompletionRecord) : s.Serves (s.postRecords rs) := { refl s with }

/-- A frame of an open slot goes to the slot's home. -/
theorem appendRequest (e : OutRequest) (t : Tag) (r : SlotRecord) (hr : s.slot t = some r) (isOpen : r.isOpen = true)
    (dest : e.destination = r.home) : s.Serves (s.appendRequest e) :=
  { refl s with
    requests := fun a ha => by
      rcases List.mem_append.mp ha with old | new
      · exact .inl old
      · obtain rfl := List.mem_singleton.mp new
        exact .inr ⟨t, r, hr, isOpen, dest⟩ }

/-- A slot changes as it may, and goes on awaiting the read stalled for it. -/
theorem setSlot (t : Tag) (r₀ : SlotRecord) (r : Option SlotRecord) (h₀ : s.slot t = some r₀)
    (becomes : ∀ a, r = some a → r₀.Becomes a)
    (awaits : s.readStalledFor t = true → r₀.awaitsRead = true → ∃ a, r = some a ∧ a.awaitsRead = true) :
    s.Serves (s.setSlot t r) :=
  { refl s with
    slots := fun u a ha => by
      by_cases same : t = u
      · subst same
        exact ⟨r₀, h₀, becomes a (by simpa using ha)⟩
      · rw [slot_setSlot_of_ne s t u r same] at ha
        exact ⟨a, ha, .refl a⟩
    stall := fun u n h => by
      refine ⟨h, rfl, fun b hb ab => ?_⟩
      by_cases same : t = u
      · subst same
        rw [h₀] at hb
        cases hb
        simpa using awaits (readStalledFor_of_stalled h) ab
      · rw [slot_setSlot_of_ne s t u r same]
        exact ⟨b, hb, ab⟩ }

/-- A slot for which no read is stalled changes as it may. -/
theorem setSlot_unstalled (t : Tag) (r₀ : SlotRecord) (r : Option SlotRecord) (h₀ : s.slot t = some r₀)
    (becomes : ∀ a, r = some a → r₀.Becomes a) (unstalled : r₀.awaitsRead = true → s.readStalledFor t = false) :
    s.Serves (s.setSlot t r) :=
  setSlot t r₀ r h₀ becomes fun stalled awaits => by simp [unstalled awaits] at stalled

/-- The end of a stalled read drives its result word (R187). -/
theorem endRead (t : Tag) (w : Word) : s.Serves (s.endRead t w) := by
  unfold State.endRead
  split
  · next mine =>
    cases hw : s.port.window with
    | idle => simp [readStalledFor, hw] at mine
    | stalled u n =>
      exact { refl s with
        stall := fun _ _ h => by cases h
        data := .inr ⟨u, n, hw⟩ }
  · exact refl s

theorem endReadGranted (t : Tag) (g : Word) (v : List Byte) : s.Serves (s.endReadGranted t g v) := by
  have granted : s.Serves (s.withPort { s.port with lastGrant := { generation := g, value := v } }) := { refl s with }
  exact (granted.trans (endRead t _)).ite (refl s)

/-! ## Slots that send and finish -/

theorem finishSlot (t : Tag) (r₀ r : SlotRecord) (rec : Option CompletionRecord) (h₀ : s.slot t = some r₀)
    (becomes : r₀.Becomes r) (unstalled : r₀.awaitsRead = true → s.readStalledFor t = false) :
    s.Serves (s.finishSlot t r rec) :=
  (postRecords _).trans <| setSlot_unstalled t r₀ _ h₀
    (fun _ ha => becomes.trans ((SlotRecord.Becomes.counted r _).trans (.of_finished ha))) unstalled

theorem sendOrOwe (t : Tag) (r₀ r : SlotRecord) (b : RequestBody) (h₀ : s.slot t = some r₀) (becomes : r₀.Becomes r)
    (isOpen : r.isOpen = true) (unstalled : r₀.awaitsRead = true → s.readStalledFor t = false) :
    s.Serves (s.sendOrOwe t r b) := by
  have owing : r₀.Becomes { r with owed := some b } := becomes.trans ⟨rfl, rfl, id, .inr rfl⟩
  unfold State.sendOrOwe
  split
  · exact setSlot_unstalled t r₀ _ h₀ (by rintro _ ⟨⟩; exact owing) unstalled
  · have kept := setSlot_unstalled t r₀ (some r) h₀ (by rintro _ ⟨⟩; exact becomes) unstalled
    exact kept.trans (appendRequest _ t r (by simp) isOpen rfl)

/-- An owed frame is appended; its slot awaits what it awaited (R50). -/
theorem sendOwed (t : Tag) (r : SlotRecord) (hr : s.slot t = some r) (isOpen : r.isOpen = true) :
    s.Serves (s.sendOwed t r) := by
  unfold State.sendOwed
  split
  · exact refl s
  · have paid : s.Serves (s.setSlot t (some { r with owed := none })) :=
      setSlot t r _ hr (by rintro _ ⟨⟩; exact ⟨rfl, rfl, id, .inr rfl⟩) fun _ awaits => ⟨_, rfl, awaits⟩
    exact paid.trans (appendRequest _ t { r with owed := none } (by simp) isOpen rfl)

/-! ## Responses (R53 to R58) -/

/-- A GRANT of a slot that awaits it makes it HELD, and ends the read that is stalled for it (R54, R187). -/
theorem applyGrant (t : Tag) (r : SlotRecord) (g : Word) (v : List Byte) (hr : s.slot t = some r)
    (isOpen : r.isOpen = true) : s.Serves (s.applyGrant t r g v) := by
  have held : r.Becomes { r with state := .held, timer := none, hold := some { generation := g, value := v } } :=
    ⟨rfl, rfl, fun _ => isOpen, .inl rfl⟩
  unfold State.applyGrant
  split
  · next command =>
    refine (postRecords _).trans (setSlot_unstalled t r _ hr ?_ fun awaits => ?_)
    · rintro _ ⟨⟩
      exact held.trans (SlotRecord.Becomes.counted _ _)
    · simp [SlotRecord.awaitsRead, command] at awaits
  · rw [endReadGranted_setSlot]
    have same : (s.endReadGranted t g v).slot t = some r := (slot_of_req (by simp) t).trans hr
    exact (endReadGranted t g v).trans <| setSlot_unstalled t r _ same (by rintro _ ⟨⟩; exact held)
      fun _ => readStalledFor_endReadGranted s t g v

/-- A DENY finishes its slot, and ends the read that is stalled for it (R55, R187). -/
theorem applyDeny (t : Tag) (r : SlotRecord) (why : DenyReason) (hr : s.slot t = some r) :
    s.Serves (s.applyDeny t r why) := by
  unfold State.applyDeny
  split
  · next command =>
    exact finishSlot t r r _ hr (.refl r) fun awaits => by simp [SlotRecord.awaitsRead, command] at awaits
  · rw [endRead_finishSlot]
    have same : (s.endRead t (resultWord CompletionKind.denied.code (.deny why))).slot t = some r :=
      (slot_of_req (by simp) t).trans hr
    exact (endRead t _).trans <| finishSlot t r r _ same (.refl r) fun _ => readStalledFor_endRead s t _

/-- A marked slot awaits no read, so it can go to CANCELLING (R58, R64). -/
theorem cancelMarked (t : Tag) (r : SlotRecord) (hr : s.slot t = some r) (pending : r.state = .pending)
    (marked : r.mark = true) :
    s.Serves (s.sendOrOwe t { r with state := .cancelling, mark := false } (.cancel r.lock t)) :=
  sendOrOwe t r _ _ hr ⟨rfl, rfl, fun _ => by simp [SlotRecord.isOpen, pending], .inr rfl⟩ rfl fun awaits => by
    simp [SlotRecord.awaitsRead, pending, marked] at awaits

/-- A slot past the answer to its ACQUIRE awaits no read, so it can finish. -/
theorem finishSlot_past (t : Tag) (r : SlotRecord) (rec : Option CompletionRecord) (hr : s.slot t = some r)
    (past : r.pastAnswer) : s.Serves (s.finishSlot t r rec) :=
  finishSlot t r r rec hr (.refl r) fun awaits => by
    rcases past with state | state | state | state <;> simp [SlotRecord.awaitsRead, state] at awaits

/-- A response is applied, or discarded (R53 to R58). -/
theorem applyResponse (src : Station) (b : ResponseBody) : s.Serves (s.applyResponse src b) := by
  unfold State.applyResponse
  split
  · exact refl s
  · next r hr =>
    split
    · exact refl s
    · split
      · split
        · next state => exact applyGrant _ r _ _ hr (by simp [SlotRecord.isOpen, state])
        · next state =>
          split
          · next marked => exact cancelMarked _ r hr state marked
          · exact applyGrant _ r _ _ hr (by simp [SlotRecord.isOpen, state])
        all_goals exact refl s
      · split
        · exact applyDeny _ r _ hr
        · next state =>
          split
          · next marked => exact cancelMarked _ r hr state marked
          · exact applyDeny _ r _ hr
        all_goals exact refl s
      · split
        · next state => exact finishSlot_past _ r _ hr (.inr (.inl state))
        all_goals exact refl s
      · split
        · next state => exact finishSlot_past _ r _ hr (.inr (.inr (.inl state)))
        all_goals exact refl s

/-! ## Departures, cancels and releases (R50, R51, R59 to R64) -/

/-- A frame of a slot has left the queue (R51, R64, R77). -/
theorem requestDeparted (t : Tag) (isAcquire : Bool) : s.Serves (s.requestDeparted t isAcquire) := by
  unfold State.requestDeparted
  split
  · exact refl s
  · next r hr =>
    split
    · next state =>
      split
      · exact refl s
      · split
        · next marked => exact cancelMarked t r hr state marked
        · refine setSlot t r _ hr ?_ fun _ awaits => ⟨_, rfl, ?_⟩
          · rintro _ ⟨⟩
            exact ⟨rfl, rfl, fun _ => by simp [SlotRecord.isOpen, state], .inr rfl⟩
          · simp only [SlotRecord.awaitsRead, decide_eq_true_eq] at awaits ⊢
            exact ⟨awaits.1, .inr trivial⟩
    · next state =>
      refine setSlot_unstalled t r _ hr (fun _ ha => .of_settled ha) fun awaits => ?_
      simp [SlotRecord.awaitsRead, state] at awaits
    all_goals
      next state => exact sendOwed t r hr (by simp [SlotRecord.isOpen, state])

theorem withdraw (t : Tag) (e : OutRequest) : s.Serves (s.withdraw t e) := by
  have filtered (x : State) :
      x.Serves (x.withDlv { x.dlv with requests := x.dlv.requests.filter (fun a => decide (a.body.tag ≠ t)) }) :=
    withDlv _ rfl fun _ he => List.mem_of_mem_filter he
  unfold State.withdraw
  dsimp only
  split
  · exact (setSend _ _).trans (filtered _)
  · exact filtered s

theorem withdrawAndFinish (t : Tag) (r₀ r : SlotRecord) (e : OutRequest) (h₀ : s.slot t = some r₀)
    (becomes : r₀.Becomes r) (unstalled : r₀.awaitsRead = true → s.readStalledFor t = false) :
    s.Serves (s.withdrawAndFinish t r e) := by
  refine (withdraw t e).trans (finishSlot t r₀ r _ ((slot_of_req (by simp) t).trans h₀) becomes fun awaits => ?_)
  rw [← unstalled awaits, readStalledFor, withdraw_port, readStalledFor]

theorem acquireNotTaken (t : Tag) : s.Serves (s.acquireNotTaken t) := by
  unfold State.acquireNotTaken
  split
  · next r e hr _ =>
    split
    · next marked =>
      refine withdrawAndFinish t r r e hr (.refl r) fun awaits => ?_
      simp [SlotRecord.awaitsRead, marked] at awaits
    · exact refl s
  · exact refl s
  · exact refl s

/-- A cancel of a slot whose read, if one was stalled for it, has ended (R61, R63). -/
theorem cancelSlot (t : Tag) (cause : CancelCause)
    (unstalled : ∀ r, s.slot t = some r → r.awaitsRead = true → s.readStalledFor t = false) :
    s.Serves (s.cancelSlot t cause) := by
  unfold State.cancelSlot
  split
  · exact refl s
  · next r hr =>
    have stopped : r.Becomes { r with cancelCause := cause, timer := none } := ⟨rfl, rfl, id, .inl rfl⟩
    dsimp only
    split
    · next state =>
      have marked :
          s.Serves (s.setSlot t (some { r with cancelCause := cause, timer := none, mark := true })) :=
        setSlot_unstalled t r _ hr (by rintro _ ⟨⟩; exact ⟨rfl, rfl, id, .inl rfl⟩) (unstalled r hr)
      split
      · exact refl s
      · split
        · split
          · exact withdrawAndFinish t r _ _ hr stopped (unstalled r hr)
          · exact marked
        · exact marked
    · next state =>
      exact sendOrOwe t r _ _ hr ⟨rfl, rfl, fun _ => by simp [SlotRecord.isOpen, state], .inl rfl⟩ rfl
        (unstalled r hr)
    all_goals exact refl s

/-- The release of a HELD slot is taken (R59, R60). -/
theorem releaseSlot (t : Tag) (r : SlotRecord) (u : Bool) (v : List Byte) (hr : s.slot t = some r)
    (held : r.state = .held) : s.Serves (s.releaseSlot t r u v) :=
  sendOrOwe t r _ _ hr ⟨rfl, rfl, fun _ => by simp [SlotRecord.isOpen, held], .inr rfl⟩ rfl fun awaits => by
    simp [SlotRecord.awaitsRead, held] at awaits

/-- The head of the completion queue is popped (R76, R77). -/
theorem popRecord : s.Serves s.popRecord := by
  unfold State.popRecord
  split
  · exact refl s
  · next c cs _ =>
    have popped : s.Serves (s.withReq { s.req with completions := cs }) := { refl s with }
    dsimp only
    split
    · exact popped
    · next r hr =>
      refine popped.trans (setSlot _ r _ hr (fun _ ha => (SlotRecord.Becomes.counted r _).trans (.of_settled ha)) ?_)
      intro _ awaits
      have stays : ¬ r.state = .done := by
        intro done
        simp [SlotRecord.awaitsRead, done] at awaits
      exact ⟨{ r with recordsPending := r.recordsPending - 1 },
        by simp only [SlotRecord.settled, stays, false_and, if_false], awaits⟩

/-! ## Answers and submissions -/

/-- A PRESENCE falls due, in ONLINE (R84, R121). -/
theorem setPresenceDue : s.Serves s.setPresenceDue :=
  (refl s).ite (withDlv _ rfl fun _ he => he)

/-- An addressed frame is answered BUSY or UNHEARD (R121). -/
theorem frameNotTaken (d : Station) (q : OutQueue) (x : LastAnswer) : s.Serves (s.frameNotTaken d q x) := by
  have held : s.Serves (s.setSend d { s.sendRecord d with lastAnswer := x, holdOff := some Config.holdOffBits }) :=
    setSend d _
  have answered := (held.trans setPresenceDue).ite (c := x = .unheard) held
  unfold State.frameNotTaken
  dsimp only
  split
  · split
    · exact answered.trans (acquireNotTaken _)
    · exact answered
  · exact answered
  · exact answered

/-- A submission is answered (R173). -/
theorem setResult (r : SubmissionResult) : s.Serves (s.setResult r) := { refl s with }

/-- A RELEASE is submitted (R175). -/
theorem submitRelease : s.Serves s.submitRelease := by
  unfold State.submitRelease
  split
  · exact setResult _
  · split
    · split
      · exact setResult _
      · split
        · exact setResult _
        · next hr =>
          split
          · next held => exact (releaseSlot _ _ _ _ hr held).trans (setResult _)
          · exact setResult _
    · exact setResult _

/-- A CANCEL is submitted while no read is stalled (R176). -/
theorem submitCancel (idle : ∀ t, s.readStalledFor t = false) : s.Serves s.submitCancel := by
  unfold State.submitCancel
  split
  · exact setResult _
  · split
    · exact setResult _
    · split
      · exact setResult _
      · split
        · exact setResult _
        · split
          · exact (cancelSlot _ _ fun _ _ _ => idle _).trans (setResult _)
          · exact setResult _

/-- A write in the release window (R192). -/
theorem releaseByWindow (l : LockId) : s.Serves (s.releaseByWindow l) := by
  unfold State.releaseByWindow
  split
  · exact refl s
  · split
    · exact refl s
    · split
      · exact refl s
      · next hr =>
        split
        · next held => exact releaseSlot _ _ _ _ hr held
        · exact refl s

/-- The wait limit of a stalled read runs out (R189). -/
theorem windowLimit : s.Serves s.windowLimit := by
  unfold State.windowLimit
  split
  · exact refl s
  · exact (endRead _ _).trans (cancelSlot _ _ fun _ _ _ => readStalledFor_endRead _ _ _)

/-! ## Losses (R69 to R71) -/

theorem loseSlots (affected : Station → Bool) (why : Reason) : s.Serves (s.loseSlots affected why) where
  ctl := by simp
  roster := by simp
  home := by simp
  bus := by simp
  responses := by simp
  requests e he := .inl (by simpa using he)
  slots t r hr := by
    rw [slot_loseSlots] at hr
    split at hr
    · next r₀ h₀ =>
      refine ⟨r₀, h₀, ?_⟩
      split at hr
      · exact .of_lose hr
      · exact Option.some.inj hr ▸ .refl r₀
    · cases hr
  stall t n h := by
    rcases s.loseSlots_port affected why with ⟨port, kept⟩ | ⟨_, _, _, _, _, _, _, port⟩
    · rw [port] at h ⊢
      refine ⟨h, rfl, fun r hr awaits => ⟨r, ?_, awaits⟩⟩
      have same := kept t n r h hr (SlotRecord.isOpen_of_awaitsRead awaits)
      simp [slot_loseSlots, hr, same]
    · simp [port] at h
  data := by
    rcases s.loseSlots_port affected why with ⟨port, _⟩ | ⟨t, n, _, stalled, _⟩
    · exact .inl (by rw [port])
    · exact .inr ⟨t, n, stalled⟩

end Serves
end State
end Sys2Proof.Machine

/-! # The line (R100 to R112)

`BusAccess.Fits` is the bus access unit's invariant with its parts named. Few operations change the line; all the
others leave it but for the attempt in flight, whose phase stays (`State.KeepsLine`). -/

namespace Sys2Proof.Machine

/-- The bus access unit is as its line phase says (R100 to R108, R110). -/
structure BusAccess.Fits (b : BusAccess) (own : Station) : Prop where
  position : b.linePhase = .cycle → b.ownPosition = some (ownPositionOf own b.reference)
  counter : b.linePhase = .cycle → ∃ n, b.positionCounter = some n ∧ 1 ≤ n ∧ n ≤ Config.positions
  noCycle : b.linePhase ≠ .cycle → b.positionCounter = none ∧ b.ownPosition = none
  sending : ∀ a, b.attempt = some a → a.phase = .sending → b.linePhase = .frame
  sentWhole : ∀ a, b.attempt = some a → a.phase = .sentWhole → b.linePhase = .window
  collision : ∀ a, b.attempt = some a → a.phase = .collision → b.linePhase = .frame ∨ b.linePhase = .window
  noAck : b.linePhase ≠ .window → b.ackDue = none ∧ b.ackSending = none
  oneAck : b.ackDue = none ∨ b.ackSending = none
  transmission : b.windowTransmission = true → b.linePhase = .window ∧ b.ackDue = none ∧ b.ackSending = none

/-- The bus access unit fits, and is in START-UP while RST- is asserted (R165). -/
structure State.LineLawful (s : State) : Prop where
  bus : s.bus.Fits s.own
  reset : s.ctl.resetAsserted = true → s.bus.linePhase = .startUp

/-- The attempt fits when each of its phases stands in its line phase. -/
theorem BusAccess.attemptFits_iff (b : BusAccess) : b.attemptFits = true ↔ ∀ a, b.attempt = some a →
    (a.phase = .sending → b.linePhase = .frame) ∧ (a.phase = .sentWhole → b.linePhase = .window) ∧
      (a.phase = .collision → b.linePhase = .frame ∨ b.linePhase = .window) := by
  unfold attemptFits
  cases b.attempt with
  | none => simp
  | some a => cases hp : a.phase <;> simp [hp]

/-- The invariant is the one the statement names. -/
theorem State.lineLawful_iff (s : State) : s.LineLawful ↔ BusInv s := by
  have counted : s.bus.positionCounter.any (fun n => decide (1 ≤ n ∧ n ≤ Config.positions)) = true ↔
      ∃ n, s.bus.positionCounter = some n ∧ 1 ≤ n ∧ n ≤ Config.positions := by
    cases s.bus.positionCounter <;> simp
  constructor
  · rintro ⟨⟨position, counter, noCycle, sending, sentWhole, collision, noAck, oneAck, transmission⟩, reset⟩
    exact ⟨fun c => ⟨position c, counted.mpr (counter c)⟩, noCycle,
      s.bus.attemptFits_iff.mpr fun a ha => ⟨sending a ha, sentWhole a ha, collision a ha⟩,
      noAck, oneAck, transmission, reset⟩
  · rintro ⟨cycle, noCycle, attempt, noAck, oneAck, transmission, reset⟩
    have attempt := s.bus.attemptFits_iff.mp attempt
    exact ⟨⟨fun c => (cycle c).1, fun c => counted.mp (cycle c).2, noCycle, fun a ha => (attempt a ha).1,
      fun a ha => (attempt a ha).2.1, fun a ha => (attempt a ha).2.2, noAck, oneAck, transmission⟩, reset⟩

/-- The own position lies within a cycle (R102, R103). -/
theorem ownPositionOf_bounds (own : Station) (reference : Option Station) :
    1 ≤ ownPositionOf own reference ∧ ownPositionOf own reference ≤ Config.positions := by
  unfold ownPositionOf Config.positions
  split <;> omega

namespace BusAccess.Fits

variable {b : BusAccess} {own : Station}

/-! ## Changes of the line -/

/-- In a cycle and in START-UP no attempt is in flight. -/
theorem no_attempt (h : b.Fits own) (frame : b.linePhase ≠ .frame) (window : b.linePhase ≠ .window) :
    b.attempt = none := by
  cases ha : b.attempt with
  | none => rfl
  | some a =>
    cases hp : a.phase with
    | sending => exact absurd (h.sending a ha hp) frame
    | sentWhole => exact absurd (h.sentWhole a ha hp) window
    | collision => exact absurd (h.collision a ha hp) (not_or.mpr ⟨frame, window⟩)

/-- Outside a window no transmission is in progress inside one. -/
theorem no_transmission (h : b.Fits own) (window : b.linePhase ≠ .window) : b.windowTransmission = false := by
  cases hw : b.windowTransmission with
  | false => rfl
  | true => exact absurd (h.transmission hw).1 window

/-- The attempt may change in all but its phase. -/
theorem mapAttempt (h : b.Fits own) (f : Attempt → Attempt) (phase : ∀ a, (f a).phase = a.phase) :
    ({ b with attempt := b.attempt.map f } : BusAccess).Fits own := by
  have before : ∀ a, b.attempt.map f = some a → ∃ a₀, b.attempt = some a₀ ∧ a.phase = a₀.phase := by
    intro a ha
    obtain ⟨a₀, h₀, rfl⟩ := Option.map_eq_some_iff.mp ha
    exact ⟨a₀, h₀, phase a₀⟩
  exact { h with
    sending := fun a ha hp => by
      obtain ⟨a₀, h₀, same⟩ := before a ha
      exact h.sending a₀ h₀ (same ▸ hp)
    sentWhole := fun a ha hp => by
      obtain ⟨a₀, h₀, same⟩ := before a ha
      exact h.sentWhole a₀ h₀ (same ▸ hp)
    collision := fun a ha hp => by
      obtain ⟨a₀, h₀, same⟩ := before a ha
      exact h.collision a₀ h₀ (same ▸ hp) }

/-- A cycle fits when no attempt is in flight, no ACK stands and no transmission is in progress (R102, R103). -/
theorem of_cycle (cycle : b.linePhase = .cycle) (position : b.ownPosition = some (ownPositionOf own b.reference))
    (counter : ∃ n, b.positionCounter = some n ∧ 1 ≤ n ∧ n ≤ Config.positions) (attempt : b.attempt = none)
    (due : b.ackDue = none) (ack : b.ackSending = none) (transmission : b.windowTransmission = false) :
    b.Fits own where
  position _ := position
  counter _ := counter
  noCycle other := absurd cycle other
  sending a ha := by simp [attempt] at ha
  sentWhole a ha := by simp [attempt] at ha
  collision a ha := by simp [attempt] at ha
  noAck _ := ⟨due, ack⟩
  oneAck := .inl due
  transmission on := by simp [transmission] at on

/-- A cycle begins (R102). -/
theorem beginCycle (b : BusAccess) (own : Station) (attempt : b.attempt = none) (due : b.ackDue = none)
    (ack : b.ackSending = none) (transmission : b.windowTransmission = false) : (b.beginCycle own).Fits own :=
  of_cycle rfl rfl ⟨1, rfl, le_refl 1, by decide⟩ attempt due ack transmission

/-- A dominant bit ends the cycle (R102). -/
theorem endCycle (h : b.Fits own) (cycle : b.linePhase = .cycle) : b.endCycle.Fits own := by
  have attempt := h.no_attempt (by simp [cycle]) (by simp [cycle])
  have quiet := h.noAck (by simp [cycle])
  have none := h.no_transmission (by simp [cycle])
  exact {
    position := nofun
    counter := nofun
    noCycle := fun _ => ⟨rfl, rfl⟩
    sending := fun a ha => by simp [BusAccess.endCycle, attempt] at ha
    sentWhole := fun a ha => by simp [BusAccess.endCycle, attempt] at ha
    collision := fun a ha => by simp [BusAccess.endCycle, attempt] at ha
    noAck := fun _ => quiet
    oneAck := .inl quiet.1
    transmission := fun on => by simp [BusAccess.endCycle, none] at on }

/-- The first dominant bit of another transmission (R99, R102, R108). -/
theorem noteTransmission (h : b.Fits own) : b.noteTransmission.Fits own := by
  unfold BusAccess.noteTransmission
  split
  · exact h
  · next cycle => exact h.endCycle cycle
  · exact h
  · next window =>
    exact { h with
      noAck := fun _ => ⟨rfl, rfl⟩
      oneAck := .inl rfl
      transmission := fun _ => ⟨window, rfl, rfl⟩ }

/-- A transmission received is in progress no longer (R99). -/
theorem transmissionReceived (h : b.Fits own) : b.transmissionReceived.Fits own :=
  { h.noteTransmission with transmission := nofun }

/-- After a transmission has been received outside START-UP no cycle runs, the attempt is what it was, and no ACK is
going out (R99, R102; log 15). -/
theorem after_transmission (h : b.Fits own) (startUp : b.linePhase ≠ .startUp) :
    b.transmissionReceived.linePhase ≠ .cycle ∧ b.transmissionReceived.attempt = b.attempt ∧
      b.transmissionReceived.ackSending = none := by
  unfold BusAccess.transmissionReceived BusAccess.noteTransmission
  split
  · next phase => exact absurd phase startUp
  · next phase => exact ⟨nofun, rfl, (h.noAck (by simp [phase])).2⟩
  · next phase => exact ⟨by simp [phase], rfl, (h.noAck (by simp [phase])).2⟩
  · next phase => exact ⟨by simp [phase], rfl, rfl⟩

/-- In START-UP the own number does not matter. -/
theorem of_startUp (h : b.Fits own) (startUp : b.linePhase = .startUp) (number : Station) : b.Fits number :=
  { h with position := fun cycle => by simp [startUp] at cycle }

/-- The bus access unit after either reset (R112). -/
theorem startUp (own : Station) : BusAccess.startUp.Fits own where
  position := nofun
  counter := nofun
  noCycle _ := ⟨rfl, rfl⟩
  sending _ none := by cases none
  sentWhole _ none := by cases none
  collision _ none := by cases none
  noAck _ := ⟨rfl, rfl⟩
  oneAck := .inl rfl
  transmission none := by cases none

/-- A window opens at the end of a transmission, when no own frame is going out (R100). -/
theorem openWindow (h : b.Fits own) (reference : Option Station) (other : b.linePhase ≠ .cycle)
    (quiet : ∀ a, b.attempt = some a → a.phase ≠ .sending) : (b.openWindow reference).Fits own where
  position := nofun
  counter := nofun
  noCycle _ := h.noCycle other
  sending a ha hp := absurd hp (quiet a ha)
  sentWhole _ _ _ := rfl
  collision _ _ _ := .inr rfl
  noAck window := absurd rfl window
  oneAck := h.oneAck
  transmission := nofun

end BusAccess.Fits

/-- An abandoned attempt goes on as it went (R125). -/
theorem Attempt.abandonTo_phase (a : Attempt) (p : Station) : (a.abandonTo p).phase = a.phase := by
  unfold Attempt.abandonTo
  split
  · split <;> rfl
  all_goals rfl

namespace State

/-! ## Operations that leave the line -/

/-- The line stays, but for the attempt in flight, whose phase stays. -/
structure KeepsLine (s x : State) : Prop where
  number : x.ctl.number = s.ctl.number
  reset : x.ctl.resetAsserted = s.ctl.resetAsserted
  bus : ∃ f : Attempt → Attempt, (∀ a, (f a).phase = a.phase) ∧
    x.bus = { s.bus with attempt := s.bus.attempt.map f }

namespace KeepsLine

variable {s x y : State}

theorem of_same (number : x.ctl.number = s.ctl.number) (reset : x.ctl.resetAsserted = s.ctl.resetAsserted)
    (bus : x.bus = s.bus) : s.KeepsLine x :=
  ⟨number, reset, id, fun _ => rfl, by simp [bus]⟩

theorem of_ctl (ctl : x.ctl = s.ctl) (bus : x.bus = s.bus) : s.KeepsLine x :=
  of_same (by rw [ctl]) (by rw [ctl]) bus

theorem refl (s : State) : s.KeepsLine s := of_ctl rfl rfl

theorem trans (sx : s.KeepsLine x) (xy : x.KeepsLine y) : s.KeepsLine y := by
  obtain ⟨f, hf, busX⟩ := sx.bus
  obtain ⟨g, hg, busY⟩ := xy.bus
  refine ⟨xy.number.trans sx.number, xy.reset.trans sx.reset, g ∘ f, fun a => (hg _).trans (hf a), ?_⟩
  rw [busY, busX, Option.map_map]

theorem ite {c : Prop} [Decidable c] (hx : s.KeepsLine x) (hy : s.KeepsLine y) : s.KeepsLine (if c then x else y) := by
  split <;> assumption

theorem of_serves (h : s.Serves x) : s.KeepsLine x := of_ctl h.ctl h.bus

theorem ignoreAttempt (s : State) : s.KeepsLine s.ignoreAttempt :=
  ⟨rfl, rfl, fun a => { a with ignored := true }, fun _ => rfl, rfl⟩

theorem withDlv (s : State) (d : FrameDelivery) : s.KeepsLine (s.withDlv d) := of_ctl rfl rfl
theorem withRoster (s : State) (r : PeerRoster) : s.KeepsLine (s.withRoster r) := of_ctl rfl rfl
theorem withPort (s : State) (p : LocalPort) : s.KeepsLine (s.withPort p) := of_ctl rfl rfl
theorem withPending (s : State) (q : List Instr) : s.KeepsLine (s.withPending q) := of_ctl rfl rfl
theorem setPeer (s : State) (p : Station) (r : PeerRecord) : s.KeepsLine (s.setPeer p r) := withRoster s _
theorem setSend (s : State) (p : Station) (r : SendRecord) : s.KeepsLine (s.setSend p r) := withDlv s _
theorem setReceive (s : State) (p : Station) (r : Option ReceiveRecord) : s.KeepsLine (s.setReceive p r) :=
  withDlv s _
theorem setResult (s : State) (r : SubmissionResult) : s.KeepsLine (s.setResult r) := withPort s _

/-- The station controller changes but for the own number and RST-. -/
theorem withCtl (s : State) (c : StationController) (number : c.number = s.ctl.number)
    (reset : c.resetAsserted = s.ctl.resetAsserted) : s.KeepsLine (s.withCtl c) := of_same number reset rfl

end KeepsLine

/-- A purge leaves the line but for the attempt to its peer, whose outcome will be ignored (R133). -/
theorem purge_bus (s : State) (p : Station) (c : PurgeCause) :
    (s.purge p c).bus = { s.bus with attempt := s.bus.attempt.map (·.abandonTo p) } := by
  simp [purge, purgeDelivery]

namespace KeepsLine

variable (s : State)

theorem purge (p : Station) (c : PurgeCause) : s.KeepsLine (s.purge p c) :=
  ⟨by rw [purge_ctl], by rw [purge_ctl], (·.abandonTo p), fun a => a.abandonTo_phase p, purge_bus s p c⟩

theorem enterLeaving : s.KeepsLine s.enterLeaving := by
  refine (ignoreAttempt s).trans (of_same ?_ ?_ ?_) <;>
    simp [State.enterLeaving, State.ignoreAttempt, State.leaveDelivery]

theorem submitLeave : s.KeepsLine s.submitLeave :=
  ((enterLeaving s).trans (setResult _ _)).ite (setResult s _)

theorem submitStart : s.KeepsLine s.submitStart := by
  unfold State.submitStart
  split
  · exact setResult s _
  · split
    · exact of_same rfl rfl rfl
    all_goals exact (withCtl s _ (by rfl) (by rfl)).trans (setResult _ _)

theorem endLeaving : s.KeepsLine s.endLeaving :=
  (withCtl s _ (by rfl) (by rfl)).trans ((withDlv _ _).trans ((withRoster _ _).trans (ignoreAttempt _)))

theorem enterOnline : s.KeepsLine s.enterOnline :=
  (withCtl s _ (by rfl) (by rfl)).trans ((withRoster _ _).trans (withDlv _ _))

theorem slotTimeout (t : Tag) : s.KeepsLine (s.slotTimeout t) := by
  unfold State.slotTimeout
  split
  · exact refl s
  · exact (of_ctl (cancelSlot_ctl s t .timeout) (cancelSlot_bus s t .timeout)).ite (refl s)

theorem presenceTimeout : s.KeepsLine s.presenceTimeout :=
  ((of_ctl (setPresenceDue_ctl s) (setPresenceDue_bus s)).trans (withRoster _ _)).ite (refl s)

theorem submit (v : Word) : s.KeepsLine (s.submit v) := by
  unfold State.submit
  split
  · exact of_ctl (by simp) (by simp)
  · exact of_ctl (by simp) (by simp)
  · exact of_ctl (by simp) (by simp)
  · exact submitStart s
  · exact submitLeave s
  · exact refl s

theorem writeConfig (f : ConfigBlock → ConfigBlock) : s.KeepsLine (s.writeConfig f) :=
  (withCtl s _ (by rfl) (by rfl)).ite (refl s)

/-- A port write, at whatever address, leaves the line (R168). -/
theorem writeWord (a : PortAddr) (v : Word) : s.KeepsLine (s.writeWord a v) :=
  .ite (withPort s _) <| .ite (writeConfig s _) <| .ite (writeConfig s _) <| .ite (writeConfig s _) <|
    .ite (writeConfig s _) <| .ite (writeConfig s _) <| .ite (writeConfig s _) <| .ite (withPort s _) <|
    .ite (submit s v) <| .ite (of_serves .popRecord) <| .ite (withPort s _) <|
    .ite (of_ctl (releaseByWindow_ctl s _) (releaseByWindow_bus s _)) (refl s)

theorem frameUnanswered (d : Station) : s.KeepsLine (s.frameUnanswered d) :=
  ((setSend s d _).trans (purge _ d .noAnswer)).ite (setSend s d _)

theorem addressedOutcome (d : Station) (q : OutQueue) (f : StartedFrame) (o : AttemptOutcome) :
    s.KeepsLine (s.addressedOutcome d q f o) := by
  unfold State.addressedOutcome
  split
  · exact of_ctl (by simp) (by simp)
  · exact of_ctl (by simp) (by simp)
  · exact of_ctl (by simp) (by simp)
  · exact purge s d .disowned
  · exact frameUnanswered s d
  · exact frameUnanswered s d
  · exact refl s

/-- The outcome of an attempt is applied (R120 to R125, R163). -/
theorem applyOutcome (a : Attempt) : s.KeepsLine (s.applyOutcome a) := by
  unfold State.applyOutcome
  split
  · exact refl s
  · split
    · split
      · exact of_ctl (by simp) (by simp)
      · exact withRoster s _
    · split
      · exact withDlv s _
      · exact endLeaving s
    · split
      · exact addressedOutcome s _ _ _ _
      · exact refl s

theorem syncWaitNotice (p : Station) (w : Word) : s.KeepsLine (s.syncWaitNotice p w) :=
  (purge s p .disowned).ite (refl s)

theorem presenceHeard (p : Station) (fresh : Bool) (e d w : Word) : s.KeepsLine (s.presenceHeard p fresh e d w) := by
  have found : s.KeepsLine (((s.setPeerState p .present).recordEpoch p e).syncWaitNotice p w) :=
    (setPeer s p _).trans ((setPeer _ p _).trans (syncWaitNotice _ p w))
  unfold State.presenceHeard
  split
  · split
    · exact setPeer s p _
    · exact (purge s p .mismatch).trans (setPeer _ p _)
  · split
    · exact found
    · exact found
    · exact found
    · split
      · exact (purge s p .restarted).trans ((setPeer _ p _).trans (syncWaitNotice _ p w))
      · exact syncWaitNotice s p w

theorem leaveHeard (p : Station) : s.KeepsLine (s.leaveHeard p) := by
  unfold State.leaveHeard
  split
  · exact purge s p .left
  · exact purge s p .left
  · exact setPeer s p _
  · exact refl s

theorem silenceTimeout (p : Station) : s.KeepsLine (s.silenceTimeout p) := by
  have silent (x : State) : x.KeepsLine (x.peerSilent p) := by
    unfold State.peerSilent
    split
    · exact purge x p .silence
    · exact purge x p .silence
    · exact setPeer x p _
    · exact refl x
  exact ((setPeer s p _).trans (silent _)).ite (refl s)

/-- An ACK is kept as the answer to the attempt in flight, or changes nothing (R109). -/
theorem ackReceived (f : Frame) (n : Byte) (r : AckResult) : s.KeepsLine (s.ackReceived f n r) := by
  unfold State.ackReceived
  split
  · exact refl s
  · next a ha =>
    split
    · exact ⟨rfl, rfl, fun x => { x with answer := some r }, fun _ => rfl, by simp [ha]⟩
    · exact refl s

theorem restartSilence (p : Station) : s.KeepsLine (s.restartSilence p) := of_ctl (by simp) (by simp)

end KeepsLine

/-- What is left of the line when an attempt has ended: all but the attempt (R110). -/
theorem endAttempt_bus (s : State) : s.endAttempt.bus = { s.bus with attempt := none } := by
  unfold State.endAttempt
  split
  · next none => simp [← none]
  · next a _ =>
    obtain ⟨_, _, f, _, bus⟩ := KeepsLine.applyOutcome (s.withBus { s.bus with attempt := none }) a
    rw [bus]
    rfl

theorem endAttempt_own (s : State) : s.endAttempt.own = s.own := by
  unfold State.endAttempt
  split
  · rfl
  · exact (KeepsLine.applyOutcome _ _).number

theorem endAttempt_resetAsserted (s : State) : s.endAttempt.ctl.resetAsserted = s.ctl.resetAsserted := by
  unfold State.endAttempt
  split
  · rfl
  · exact (KeepsLine.applyOutcome _ _).reset

/-- An operation that keeps the line keeps it lawful. -/
theorem LineLawful.of_keepsLine {s x : State} (h : s.LineLawful) (k : s.KeepsLine x) : x.LineLawful := by
  obtain ⟨number, reset, f, phase, bus⟩ := k
  have own : x.own = s.own := number
  refine ⟨?_, fun asserted => ?_⟩
  · rw [own, bus]
    exact h.bus.mapAttempt f phase
  · rw [bus]
    exact h.reset (reset ▸ asserted)

/-- The line is ready for an ACK to fall due: a window is open, no ACK is going out and no transmission is in progress
inside it (R108). -/
def AckReady (s : State) : Prop :=
  s.bus.linePhase = .window ∧ s.bus.ackSending = none ∧ s.bus.windowTransmission = false

theorem AckReady.of_keepsLine {s x : State} (h : s.AckReady) (k : s.KeepsLine x) : x.AckReady := by
  obtain ⟨_, _, f, _, bus⟩ := k
  unfold AckReady
  rw [bus]
  exact h

namespace LineLawful

variable {s : State}

/-! ## The bus access unit's own events -/

/-- Only the line changes. -/
theorem withBus {b : BusAccess} (fits : b.Fits s.own)
    (reset : s.ctl.resetAsserted = true → b.linePhase = .startUp) : (s.withBus b).LineLawful :=
  ⟨fits, reset⟩

/-- Outside START-UP RST- is not asserted. -/
theorem no_reset (h : s.LineLawful) (other : s.bus.linePhase ≠ .startUp) : ¬ s.ctl.resetAsserted = true :=
  fun asserted => other (h.reset asserted)

/-- The own position has begun within the cycle (R105). -/
theorem atOwnPosition (h : s.LineLawful) (cycle : s.bus.linePhase = .cycle) : s.atOwnPosition.LineLawful := by
  refine withBus { h.bus with counter := fun _ => ?_, noCycle := fun other => absurd cycle other } h.reset
  exact ⟨_, h.bus.position cycle, ownPositionOf_bounds _ _⟩

/-- A frame begins to go out: the cycle ends (R105, R106). -/
theorem beginAttempt (h : s.LineLawful) (cycle : s.bus.linePhase = .cycle) (k : AttemptKind) (f : Frame) :
    (s.beginAttempt k f).LineLawful := by
  refine withBus { h.bus.endCycle cycle with
    sending := fun _ _ _ => rfl
    sentWhole := fun a ha hp => ?_
    collision := fun _ _ _ => .inl rfl } fun asserted => absurd asserted (h.no_reset (by simp [cycle]))
  obtain rfl := Option.some.inj ha
  cases hp

theorem attemptAddressed (h : s.LineLawful) (cycle : s.bus.linePhase = .cycle) (q : OutQueue) (d : Station)
    (b : FrameBody) : (s.attemptAddressed q d b).LineLawful :=
  (h.of_keepsLine (.setSend s d _)).beginAttempt (by exact cycle) _ _

/-- The choice at a sending opportunity (R119). -/
theorem chooseAndSend (h : s.LineLawful) (cycle : s.bus.linePhase = .cycle) : s.chooseAndSend.LineLawful := by
  unfold State.chooseAndSend
  split
  · split
    · exact (h.of_keepsLine (.withDlv s _)).beginAttempt (by exact cycle) _ _
    · split
      · exact h.attemptAddressed cycle _ _ _
      · split
        · exact h.attemptAddressed cycle _ _ _
        · exact h
  · split
    · exact (h.of_keepsLine (.withDlv s _)).beginAttempt (by exact cycle) _ _
    · exact h
  · exact h
  · exact h

theorem takeOpportunity (h : s.LineLawful) : s.takeOpportunity.LineLawful := by
  unfold State.takeOpportunity onlyIf
  split
  · next offered =>
    simp only [opportunityOffered, decide_eq_true_eq] at offered
    have cycle := offered.2.1
    exact (h.atOwnPosition cycle).chooseAndSend cycle
  · exact h

/-- The window closes and a cycle begins (R100, R102). -/
theorem closeWindow (h : s.LineLawful) (window : s.bus.linePhase = .window)
    (none : s.bus.windowTransmission = false) : s.closeWindow.LineLawful := by
  have working : ¬ s.endAttempt.ctl.resetAsserted = true := by
    rw [endAttempt_resetAsserted]
    exact h.no_reset (by simp [window])
  refine withBus (.beginCycle _ _ ?_ rfl rfl ?_) fun asserted => absurd asserted working
  · simp only [endAttempt_bus]
  · simp only [endAttempt_bus, none]

theorem windowCloses (h : s.LineLawful) : s.windowCloses.LineLawful := by
  unfold State.windowCloses onlyIf
  split
  · next closes => exact h.closeWindow closes.1 closes.2
  · exact h

/-- A mismatch at the start bit ends the attempt, and the cycle is as it was (R106). -/
theorem cycleRestored (h : s.LineLawful) (frame : s.bus.linePhase = .frame) (x : State) (number : x.own = s.own)
    (reset : x.ctl.resetAsserted = s.ctl.resetAsserted)
    (bus : x.bus = { s.bus with
      linePhase := .cycle, positionCounter := some (ownPositionOf s.own s.bus.reference),
      ownPosition := some (ownPositionOf s.own s.bus.reference), attempt := none }) : x.LineLawful := by
  have quiet := h.bus.noAck (by simp [frame])
  have none := h.bus.no_transmission (by simp [frame])
  have working := h.no_reset (by simp [frame])
  refine ⟨?_, fun asserted => absurd (reset.symm.trans asserted) working⟩
  rw [number, bus]
  exact .of_cycle rfl rfl ⟨_, rfl, ownPositionOf_bounds _ _⟩ rfl quiet.1 quiet.2 none

/-- A mismatch on the own frame: at the start bit the cycle is as it was; later the transmission goes on (R106). -/
theorem frameMismatch (h : s.LineLawful) (a : Attempt) (ha : s.bus.attempt = some a) (sending : a.phase = .sending)
    (bit : Nat) : (s.frameMismatch a bit).LineLawful := by
  have frame := h.bus.sending a ha sending
  unfold State.frameMismatch
  dsimp only
  split
  · refine h.cycleRestored frame _ ?_ ?_ ?_
    · rw [endAttempt_own]
      rfl
    · rw [endAttempt_resetAsserted]
      rfl
    · rw [endAttempt_bus]
      rfl
  · refine withBus { h.bus with
      sending := fun b hb hp => ?_
      sentWhole := fun b hb hp => ?_
      collision := fun _ _ _ => .inl frame } h.reset
    all_goals
      obtain rfl := Option.some.inj hb
      cases hp

/-- A mismatch on the ACK being sent stops it (R108). -/
theorem ackMismatch (h : s.LineLawful) (bit : Nat) : (s.ackMismatch bit).LineLawful := by
  unfold State.ackMismatch
  split
  · next f hf =>
    have window : s.bus.linePhase = .window := by
      by_contra other
      simp [(h.bus.noAck other).2] at hf
    have due : s.bus.ackDue = none := h.bus.oneAck.resolve_right (by simp [hf])
    split
    · exact withBus { h.bus with
        noAck := fun other => absurd window other
        oneAck := .inl due
        transmission := fun _ => ⟨window, due, rfl⟩ } h.reset
    · exact h
  · exact h

theorem readBack (h : s.LineLawful) (bit : Nat) : (s.readBack bit).LineLawful := by
  unfold State.readBack
  split
  · next a ha =>
    split
    · next mismatch => exact h.frameMismatch a ha mismatch.1 bit
    · exact h.ackMismatch bit
  · exact h.ackMismatch bit

/-- The own frame has gone out whole: its window opens (R100, R106). -/
theorem ownFrameEnds (h : s.LineLawful) : s.ownFrameEnds.LineLawful := by
  unfold State.ownFrameEnds
  split
  · next a ha =>
    split
    · next sending =>
      have frame := h.bus.sending a ha sending
      exact withBus {
        position := nofun
        counter := nofun
        noCycle := fun _ => h.bus.noCycle (by simp [frame])
        sending := fun b hb hp => by
          obtain rfl := Option.some.inj hb
          cases hp
        sentWhole := fun _ _ _ => rfl
        collision := fun _ _ _ => .inr rfl
        noAck := fun other => absurd rfl other
        oneAck := h.bus.oneAck
        transmission := nofun } fun asserted => absurd asserted (h.no_reset (by simp [frame]))
    · exact h
  · exact h

/-- The ACK that is due is begun inside its window (R108). -/
theorem beginAck (h : s.LineLawful) : s.beginAck.LineLawful := by
  unfold State.beginAck
  split
  · exact h
  · next f due =>
    unfold onlyIf
    split
    · next begins =>
      have window := begins.2
      exact withBus { h.bus with
        noAck := fun other => absurd window other
        oneAck := .inl rfl
        transmission := fun on => by simp [(h.bus.transmission on).2.1] at due } h.reset
    · exact h

/-- START-UP ends with a cycle (R112). -/
theorem endStartUp (h : s.LineLawful) (working : ¬ s.ctl.resetAsserted = true) : s.endStartUp.LineLawful := by
  unfold State.endStartUp onlyIf
  split
  · next startUp =>
    have quiet := h.bus.noAck (by simp [startUp])
    exact withBus (.beginCycle _ _ (h.bus.no_attempt (by simp [startUp]) (by simp [startUp])) quiet.1 quiet.2
      (h.bus.no_transmission (by simp [startUp]))) fun asserted => absurd asserted working
  · exact h

theorem othersBegin (h : s.LineLawful) (working : ¬ s.ctl.resetAsserted = true) : s.othersBegin.LineLawful := by
  unfold State.othersBegin onlyIf
  split
  · exact withBus h.bus.noteTransmission fun asserted => absurd asserted working
  · exact h

/-! ## Receipts -/

/-- An ACK falls due in an open window with no ACK and no transmission in it (R108). -/
theorem dueAck (h : s.LineLawful) (ready : s.AckReady) (p : Station) (f : Frame) (r : AckResult) :
    (s.dueAck p f r).LineLawful := by
  obtain ⟨window, sending, none⟩ := ready
  exact withBus { h.bus with
    noAck := fun other => absurd window other
    oneAck := .inr sending
    transmission := fun on => by simp [none] at on } h.reset

theorem takeFrame (h : s.LineLawful) (ready : s.AckReady) (p : Station) (f : Frame) :
    (s.takeFrame p f).LineLawful := by
  have answered (x : State) (recorded : s.KeepsLine x) : ((x.dueAck p f .accept).dispatch p f.body).LineLawful :=
    ((h.of_keepsLine recorded).dueAck (ready.of_keepsLine recorded) p f .accept).of_keepsLine
      (.of_ctl (dispatch_ctl _ _ _) (dispatch_bus _ _ _))
  unfold State.takeFrame
  dsimp only
  split
  · exact answered _ ((KeepsLine.setReceive s p _).trans (.setPeer _ p _))
  · exact answered _ (KeepsLine.setReceive s p _)

theorem admitFrame (h : s.LineLawful) (ready : s.AckReady) (p : Station) (f : Frame) :
    (s.admitFrame p f).LineLawful := by
  unfold State.admitFrame
  split
  · split
    · exact h.dueAck ready p f .busy
    · exact h.takeFrame ready p f
  · exact h.takeFrame ready p f
  all_goals exact h

/-- The checks of R128 on a frame heard in a window just opened. -/
theorem receiveChecks (h : s.LineLawful) (ready : s.AckReady) (p : Station) (f : Frame) :
    (s.receiveChecks p f).LineLawful := by
  unfold State.receiveChecks
  split
  · exact h.dueAck ready p f .unheard
  · exact h.dueAck ready p f .reject
  · exact h.dueAck ready p f .reject
  · split
    · exact h.dueAck ready p f .reject
    · split
      · exact h.dueAck ready p f .accept
      · split
        · have purged := KeepsLine.purge s p .disowned
          exact (h.of_keepsLine purged).admitFrame (ready.of_keepsLine purged) p f
        · exact h.admitFrame ready p f

theorem answerWhileLeaving (h : s.LineLawful) (ready : s.AckReady) (p : Station) (f : Frame) :
    (s.answerWhileLeaving p f).LineLawful := by
  unfold State.answerWhileLeaving
  split
  · exact h.dueAck ready p f .busy
  · exact h.dueAck ready p f .accept
  all_goals exact h

/-- A valid frame of a peer is handed on; an arbitrated one finds the line ready for its ACK (R95). -/
theorem handOn (h : s.LineLawful) (f : Frame) (ready : f.body.arbitrated = true → s.AckReady) :
    (s.handOn f).LineLawful := by
  unfold State.handOn
  dsimp only
  split
  · exact h
  · split
    · exact h.of_keepsLine (.of_ctl (by simp) (by simp))
    · exact h.of_keepsLine (.setPeer s _ _)
    all_goals exact h
  · split
    · next hb => 
      split
      · exact h.receiveChecks (ready (by simp [hb, FrameBody.arbitrated])) _ f
      · exact h
    · next hb =>
      split
      · exact h.receiveChecks (ready (by simp [hb, FrameBody.arbitrated])) _ f
      · exact h
    · exact h.of_keepsLine (.presenceHeard s _ _ _ _ _)
    · exact h.of_keepsLine (.leaveHeard s _)
    · exact h.of_keepsLine (.ackReceived s f _ _)
  · split
    · next hb =>
      split
      · exact h.answerWhileLeaving (ready (by simp [hb, FrameBody.arbitrated])) _ f
      · exact h
    · next hb =>
      split
      · exact h.answerWhileLeaving (ready (by simp [hb, FrameBody.arbitrated])) _ f
      · exact h
    · exact h.of_keepsLine (.presenceHeard s _ _ _ _ _)
    · exact h.of_keepsLine (.leaveHeard s _)
    · exact h.of_keepsLine (.ackReceived s f _ _)

theorem fromSource (h : s.LineLawful) (f : Frame) (ready : f.body.arbitrated = true → s.AckReady) :
    (s.fromSource f).LineLawful := by
  have restarted := KeepsLine.restartSilence s f.source
  unfold State.fromSource
  split
  · exact h.of_keepsLine (.of_same rfl rfl rfl)
  · exact (h.of_keepsLine restarted).handOn f fun arbitrated => (ready arbitrated).of_keepsLine restarted

/-- An arbitrated frame opens its window, in which an ACK can fall due (R94, R100, R108). -/
theorem arbitratedEnds (h : s.LineLawful) (f : Frame) (other : s.bus.linePhase ≠ .cycle)
    (quiet : ∀ a, s.bus.attempt = some a → a.phase ≠ .sending) (working : ¬ s.ctl.resetAsserted = true)
    (ack : s.bus.ackSending = none) : (s.arbitratedEnds f).LineLawful ∧ (s.arbitratedEnds f).AckReady :=
  ⟨withBus (h.bus.openWindow _ other quiet) fun asserted => absurd asserted working, rfl, ack, rfl⟩

/-- A valid frame, its transmission over (R92 to R95, R100, R160). -/
theorem validFrame (h : s.LineLawful) (f : Frame) (other : s.bus.linePhase ≠ .cycle)
    (quiet : ∀ a, s.bus.attempt = some a → a.phase ≠ .sending) (working : ¬ s.ctl.resetAsserted = true)
    (ack : s.bus.ackSending = none) : (s.validFrame f).LineLawful := by
  obtain ⟨opened, ready⟩ := h.arbitratedEnds f other quiet working ack
  have heard := opened.fromSource f fun _ => ready
  unfold State.validFrame
  split
  · dsimp only
    split
    · exact heard.of_keepsLine (.enterOnline _)
    · exact heard
  · next notArbitrated => exact h.fromSource f fun arbitrated => absurd arbitrated notArbitrated

/-- A transmission is received: it ends the cycle, opens a window or stands in one (R90 to R95, R99 to R101). -/
theorem receive (h : s.LineLawful) (rx : Reception) : (s.receive rx).LineLawful := by
  unfold State.receive
  split
  · exact h
  · next taken =>
    obtain ⟨startUp, notOwn⟩ := not_or.mp taken
    have working := h.no_reset startUp
    have received : (s.withBus s.bus.transmissionReceived).LineLawful :=
      withBus h.bus.transmissionReceived fun asserted => absurd asserted working
    obtain ⟨other, same, ack⟩ := h.bus.after_transmission startUp
    have quiet : ∀ a, s.bus.transmissionReceived.attempt = some a → a.phase ≠ .sending := by
      intro a ha sending
      rw [same] at ha
      simp [BusAccess.ownSending, ha, sending] at notOwn
    dsimp only
    split
    · unfold State.malformed
      split
      · exact received
      · exact withBus (received.bus.openWindow none other quiet) fun asserted => absurd asserted working
    · exact received.validFrame _ other quiet working ack

/-! ## Every command -/

theorem running (h : s.LineLawful) {f : State → State} (kept : ¬ s.ctl.resetAsserted = true → (f s).LineLawful) :
    (running s f).LineLawful := by
  unfold Machine.running
  split
  · exact h
  · next working => exact kept working

theorem portCycle (h : s.LineLawful) {f : State → State} (kept : ∀ x : State, x.KeepsLine (f x)) :
    (portCycle s f).LineLawful := by
  unfold Machine.portCycle
  split
  · exact h
  · exact h.of_keepsLine ((KeepsLine.withPort s _).trans (kept _))

/-- An event that keeps the line, taken while the station runs. -/
theorem running_keeps (h : s.LineLawful) {f : State → State} (kept : s.KeepsLine (f s)) :
    (Machine.running s f).LineLawful :=
  h.running fun _ => h.of_keepsLine kept

theorem powerOn (straps : Straps) (q : List Instr) : (State.powerOn straps q).LineLawful :=
  ⟨.startUp _, fun _ => rfl⟩

theorem portResetValues (s : State) : s.portResetValues.LineLawful := ⟨.startUp _, fun _ => rfl⟩

/-- Every command keeps the line lawful. -/
theorem exec (h : s.LineLawful) (i : Instr) {x : State} (done : exec i s = .next x) : x.LineLawful := by
  cases i <;> cases done
  case acquire => exact h.portCycle fun y => .of_ctl (by simp) (by simp)
  case release => exact h.portCycle fun y => .of_ctl (by simp) (by simp)
  case cancel => exact h.portCycle fun y => .of_ctl (by simp) (by simp)
  case start => exact h.portCycle KeepsLine.submitStart
  case leave => exact h.portCycle KeepsLine.submitLeave
  case pop => exact h.portCycle fun _ => .of_serves .popRecord
  case interruptEnable => exact h.portCycle fun y => .withPort y _
  case registerWrite a v => exact h.portCycle fun y => KeepsLine.writeWord y a v
  case acquireWindowRead m l => exact h.portCycle fun y => .of_ctl (by simp) (by simp)
  case releaseWindowWrite l v => exact h.portCycle fun y => .of_ctl (by simp) (by simp)
  case readStrobeWithdrawal => exact h.running_keeps (.of_ctl (by simp) (by simp))
  case windowWaitLimitExpiry => exact h.running_keeps (.of_ctl (by simp) (by simp))
  case powerOnReset straps => exact powerOn straps _
  case portReset => exact portResetValues s
  case portResetRelease straps =>
    unfold Machine.onlyIf
    split
    · next asserted => 
      exact ⟨h.bus.of_startUp (h.reset asserted) _, nofun⟩
    · exact h
  case slotTimerExpiry t => exact h.running_keeps (.slotTimeout s t)
  case acquireAtHome => exact h.running_keeps (.of_ctl (by simp) (by simp))
  case releaseAtHome => exact h.running_keeps (.of_ctl (by simp) (by simp))
  case cancelAtHome => exact h.running_keeps (.of_ctl (by simp) (by simp))
  case walkStep => exact h.running_keeps (.of_ctl (by simp) (by simp))
  case loopbackMove => exact h.running_keeps (.of_ctl (by simp) (by simp))
  case sendingOpportunity => exact h.running fun _ => h.takeOpportunity
  case readBackMismatch bit => exact h.running fun _ => h.readBack bit
  case ownTransmissionEnd => exact h.running fun _ => h.ownFrameEnds
  case windowClose => exact h.running fun _ => h.windowCloses
  case ackTransmission => exact h.running fun _ => h.beginAck
  case holdOffExpiry d => exact h.running_keeps (.ite (.setSend s d _) (.refl s))
  case startupLineIdle => exact h.running h.endStartUp
  case requestFrameReceipt ls => exact h.running fun _ => h.receive _
  case responseFrameReceipt ls => exact h.running fun _ => h.receive _
  case presenceReceipt ls => exact h.running fun _ => h.receive _
  case leaveFrameReceipt ls => exact h.running fun _ => h.receive _
  case ackReceipt ls => exact h.running fun _ => h.receive _
  case malformedFrame ls => exact h.running fun _ => h.receive _
  case presenceTimerExpiry => exact h.running_keeps (.presenceTimeout s)
  case silenceTimerExpiry p => exact h.running_keeps (.silenceTimeout s p)
  case listenTimerExpiry => exact h.running_keeps (.ite (.enterOnline s) (.refl s))
  case leavingTimerExpiry => exact h.running_keeps (.ite (.endLeaving s) (.refl s))
  case transmissionBegin => exact h.running h.othersBegin

/-- Every step keeps the line lawful. -/
theorem step (h : s.LineLawful) {x : State} (done : step s = .next x) : x.LineLawful := by
  unfold Machine.step at done
  split at done
  · cases done
    exact h
  · exact (h.of_keepsLine (.withPending s _)).exec _ done

end LineLawful
end State
end Sys2Proof.Machine

/-! # The life cycle (R40, R65, R134, R165, R167, R186)

`State.LifeLawful` is the life cycle's invariant with its parts named. The request controller's operations keep it by
`State.Serves`; the others are taken in the order of the model. -/

namespace Sys2Proof.Machine

/-- Outside ONLINE the home and the outbound queues are empty and no slot is open; a WINDOW slot has no timer; a read is
stalled in ONLINE, for a slot that awaits it, with no data driven; a LEAVE whose outcome counts is in flight in LEAVING;
while RST- is asserted the station is in CONFIG and drives no data. -/
structure State.LifeLawful (s : State) : Prop where
  home : s.ctl.state ≠ .online → s.home = HomeController.empty
  requests : s.ctl.state ≠ .online → s.dlv.requests = []
  responses : s.ctl.state ≠ .online → s.dlv.responses = []
  closed : s.ctl.state ≠ .online → ∀ t r, s.slot t = some r → r.isOpen = false
  timers : ∀ t r, s.slot t = some r → r.origin = .window → r.timer = none
  stall : ∀ t n, s.port.window = .stalled t n →
    s.ctl.state = .online ∧ s.port.dataOut = none ∧ ∃ r, s.slot t = some r ∧ r.awaitsRead = true
  leave : ∀ a, s.bus.attempt = some a → a.kind = .leave → a.ignored = false → s.ctl.state = .leaving
  reset : s.ctl.resetAsserted = true → s.ctl.state = .config ∧ s.port.dataOut = none

/-- A cycle begins with the attempt there was. -/
theorem BusAccess.beginCycle_attempt (b : BusAccess) (own : Station) : (b.beginCycle own).attempt = b.attempt := rfl

/-- A transmission noted or received leaves the attempt in flight. -/
theorem BusAccess.noteTransmission_attempt (b : BusAccess) : b.noteTransmission.attempt = b.attempt := by
  unfold noteTransmission
  split <;> rfl

namespace State

/-- A condition on a slot that is not FREE, as a statement of slot records. -/
theorem slotIs_iff (s : State) (t : Tag) (c : SlotRecord → Bool) :
    s.slotIs t c = true ↔ ∀ r, s.slot t = some r → c r = true := by
  unfold slotIs
  cases s.slot t <;> simp

theorem stallFits_iff (s : State) : s.stallFits = true ↔ ∀ t n, s.port.window = .stalled t n →
    s.ctl.state = .online ∧ s.port.dataOut = none ∧ ∃ r, s.slot t = some r ∧ r.awaitsRead = true := by
  unfold stallFits
  cases hw : s.port.window with
  | idle => simp
  | stalled t n => cases hr : s.slot t <;> simp [hr, and_assoc]

theorem leaveAttemptFits_iff (s : State) : s.leaveAttemptFits = true ↔
    ∀ a, s.bus.attempt = some a → a.kind = .leave → a.ignored = false → s.ctl.state = .leaving := by
  unfold leaveAttemptFits
  cases s.bus.attempt <;> simp [or_iff_not_imp_left]

/-- The invariant is the one the statement names. -/
theorem lifeLawful_iff (s : State) : s.LifeLawful ↔ LifeInv s := by
  have closed : (∀ t r, s.slot t = some r → r.isOpen = false) ↔ ∀ t, s.slotIs t (fun r => !r.isOpen) = true := by
    simp [slotIs_iff]
  have timers : (∀ t r, s.slot t = some r → r.origin = .window → r.timer = none) ↔
      ∀ t, s.slotIs t SlotRecord.timerFits = true := by
    simp [slotIs_iff, SlotRecord.timerFits, or_iff_not_imp_left]
  constructor
  · intro h
    exact ⟨fun off => ⟨h.home off, h.requests off, h.responses off, closed.mp (h.closed off)⟩, timers.mp h.timers,
      s.stallFits_iff.mpr h.stall, s.leaveAttemptFits_iff.mpr h.leave, h.reset⟩
  · rintro ⟨off, slots, stall, leave, reset⟩
    exact ⟨fun o => (off o).1, fun o => (off o).2.1, fun o => (off o).2.2.1, fun o => closed.mpr (off o).2.2.2,
      timers.mpr slots, s.stallFits_iff.mp stall, s.leaveAttemptFits_iff.mp leave, reset⟩

/-- A service step is taken in ONLINE (R21). -/
theorem online_of_serviceAllowed (s : State) (h : ¬ s.serviceAllowed = false) : s.ctl.state = .online := by
  simp only [serviceAllowed, Bool.not_eq_false, Bool.and_eq_true, decide_eq_true_eq] at h
  exact h.1.1

/-- What a frame makes of the station leaves its state (R92, R95). -/
theorem fromSource_state (s : State) (f : Frame) : (s.fromSource f).ctl.state = s.ctl.state := by
  unfold State.fromSource
  split
  · rfl
  · simp

/-- No read is stalled for a slot when none is stalled. -/
theorem readStalledFor_of_idle {s : State} (idle : s.port.window = .idle) (t : Tag) : s.readStalledFor t = false := by
  simp [readStalledFor, idle]

namespace LifeLawful

variable {s x : State}

/-- The request controller's operations keep it. -/
theorem of_serves (h : s.LifeLawful) (served : s.Serves x) : x.LifeLawful where
  home off := by
    rw [served.ctl] at off
    rw [served.home, h.home off]
  requests off := by
    rw [served.ctl] at off
    refine List.eq_nil_iff_forall_not_mem.mpr fun e he => ?_
    rcases served.requests e he with old | ⟨t, r, hr, isOpen, _⟩
    · simp [h.requests off] at old
    · simp [h.closed off t r hr] at isOpen
  responses off := by
    rw [served.ctl] at off
    rw [served.responses, h.responses off]
  closed off t r hr := by
    rw [served.ctl] at off
    obtain ⟨r₀, h₀, becomes⟩ := served.slots t r hr
    have shut := h.closed off t r₀ h₀
    by_contra isOpen
    simp [becomes.wasOpen (by simpa using isOpen)] at shut
  timers t r hr window := by
    obtain ⟨r₀, h₀, becomes⟩ := served.slots t r hr
    exact becomes.timer.elim id fun same => same.trans (h.timers t r₀ h₀ (becomes.origin ▸ window))
  stall t n stalled := by
    obtain ⟨before, data, awaits⟩ := served.stall t n stalled
    obtain ⟨online, none, r₀, h₀, a₀⟩ := h.stall t n before
    exact ⟨served.ctl ▸ online, data.trans none, awaits r₀ h₀ a₀⟩
  leave a ha := by
    rw [served.bus] at ha
    rw [served.ctl]
    exact h.leave a ha
  reset asserted := by
    rw [served.ctl] at asserted ⊢
    obtain ⟨config, none⟩ := h.reset asserted
    refine ⟨config, served.data.elim (fun same => same.trans none) fun ⟨t, n, stalled⟩ => ?_⟩
    simp [(h.stall t n stalled).1] at config

/-! ## One block at a time -/

theorem withRoster (h : s.LifeLawful) (r : PeerRoster) : (s.withRoster r).LifeLawful := { h with }
theorem withPending (h : s.LifeLawful) (q : List Instr) : (s.withPending q).LifeLawful := { h with }
theorem setPeer (h : s.LifeLawful) (p : Station) (r : PeerRecord) : (s.setPeer p r).LifeLawful := { h with }
theorem setSend (h : s.LifeLawful) (p : Station) (r : SendRecord) : (s.setSend p r).LifeLawful := { h with }
theorem setReceive (h : s.LifeLawful) (p : Station) (r : Option ReceiveRecord) : (s.setReceive p r).LifeLawful :=
  { h with }
theorem setResult (h : s.LifeLawful) (r : SubmissionResult) : (s.setResult r).LifeLawful := { h with }

/-- The delivery unit changes with no frame in an empty queue. -/
theorem withDlv (h : s.LifeLawful) (d : FrameDelivery) (requests : s.dlv.requests = [] → d.requests = [])
    (responses : s.dlv.responses = [] → d.responses = []) : (s.withDlv d).LifeLawful :=
  { h with
    requests := fun off => requests (h.requests off)
    responses := fun off => responses (h.responses off) }

/-- The line changes with no new LEAVE whose outcome counts. -/
theorem withBus (h : s.LifeLawful) (b : BusAccess)
    (leave : ∀ a, b.attempt = some a → a.kind = .leave → a.ignored = false → s.ctl.state = .leaving) :
    (s.withBus b).LifeLawful :=
  { h with leave := leave }

theorem withBus_same (h : s.LifeLawful) (b : BusAccess) (attempt : b.attempt = s.bus.attempt) :
    (s.withBus b).LifeLawful :=
  h.withBus b fun a ha => h.leave a (attempt ▸ ha)

/-- In ONLINE the home may change. -/
theorem withHome (h : s.LifeLawful) (online : s.ctl.state = .online) (c : HomeController) :
    (s.withHome c).LifeLawful :=
  { h with home := fun off => absurd online off }

/-- The station controller changes while state and RST- stay. -/
theorem withCtl (h : s.LifeLawful) (c : StationController) (state : c.state = s.ctl.state)
    (reset : c.resetAsserted = s.ctl.resetAsserted) : (s.withCtl c).LifeLawful where
  home off := h.home (state ▸ off)
  requests off := h.requests (state ▸ off)
  responses off := h.responses (state ▸ off)
  closed off := h.closed (state ▸ off)
  timers := h.timers
  stall t n stalled := by
    obtain ⟨online, rest⟩ := h.stall t n stalled
    exact ⟨state.trans online, rest⟩
  leave a ha hk hi := state.trans (h.leave a ha hk hi)
  reset asserted := by
    obtain ⟨config, none⟩ := h.reset (reset ▸ asserted)
    exact ⟨state.trans config, none⟩

/-- Outside CONFIG RST- is not asserted. -/
theorem not_reset (h : s.LifeLawful) (state : s.ctl.state ≠ .config) : ¬ s.ctl.resetAsserted = true :=
  fun asserted => state (h.reset asserted).1

/-- Outside ONLINE no read is stalled. -/
theorem not_stalled (h : s.LifeLawful) (off : s.ctl.state ≠ .online) : s.port.window = .idle := by
  cases hw : s.port.window with
  | idle => rfl
  | stalled t n => exact absurd (h.stall t n hw).1 off

/-- The station moves from one state outside ONLINE to another, or enters it, with the LEAVE in flight ignored or in
LEAVING. -/
theorem moves (h : s.LifeLawful) (off : s.ctl.state ≠ .online) (c : StationController)
    (leave : ∀ a, s.bus.attempt = some a → a.kind = .leave → a.ignored = false → c.state = .leaving)
    (reset : ¬ c.resetAsserted = true) : (s.withCtl c).LifeLawful where
  home _ := h.home off
  requests _ := h.requests off
  responses _ := h.responses off
  closed _ := h.closed off
  timers := h.timers
  stall _ _ stalled := absurd ((h.not_stalled off).symm.trans stalled) nofun
  leave := leave
  reset asserted := absurd asserted reset

/-! ## Purges -/

theorem purge (h : s.LifeLawful) (p : Station) (c : PurgeCause) : (s.purge p c).LifeLawful := by
  have delivered : (s.purgeDelivery p).LifeLawful := by
    have filtered := h.withDlv { s.dlv with
      requests := s.dlv.requests.filter (fun e => decide (e.destination ≠ p))
      responses := s.dlv.responses.filter (fun e => decide (e.destination ≠ p))
      send := vset s.dlv.send p (s.sendRecord p).purged
      receive := vset s.dlv.receive p none } (fun empty => by simp [empty]) (fun empty => by simp [empty])
    refine filtered.withBus _ fun a ha leave counts => ?_
    obtain ⟨a₀, h₀, rfl⟩ := Option.map_eq_some_iff.mp ha
    have same : a₀.abandonTo p = a₀ := by
      unfold Attempt.abandonTo at leave ⊢
      split at leave
      · split at leave <;> simp_all
      all_goals simp_all
    rw [same] at leave counts
    exact h.leave a₀ h₀ leave counts
  have rostered : ((s.purgeDelivery p).purgeRoster p c).LifeLawful := delivered.setPeer p _
  refine of_serves ?_ (.loseSlots _ _)
  exact { rostered with
    home := fun off => by
      have state : s.ctl.state ≠ .online := off
      simp [purgeHome, state, h.home state, HomeController.purge, HomeController.empty] }

/-! ## The life cycle -/

/-- A START that passes its checks (R158). -/
theorem startSucceeds (h : s.LifeLawful) (config : s.ctl.state = .config) (working : ¬ s.ctl.resetAsserted = true) :
    s.startSucceeds.LifeLawful := by
  have moved := h.moves (by simp [config]) { s.ctl with
    activeMap := s.ctl.cfg.toMap, digest := mapDigest s.ctl.cfg.toMap, mapActive := true,
    lastStartRefusal := .none, duplicateSeen := false, listenTimer := some s.silenceLength, state := .joining }
    (fun a ha hk hi => by simp [h.leave a ha hk hi] at config) working
  exact (moved.withRoster _).setResult _

theorem submitStart (h : s.LifeLawful) (working : ¬ s.ctl.resetAsserted = true) : s.submitStart.LifeLawful := by
  unfold State.submitStart
  split
  · exact h.setResult _
  · next config =>
    split
    · exact h.startSucceeds (by simpa using config) working
    all_goals exact (h.withCtl _ (by rfl) (by rfl)).setResult _

/-- Entry to ONLINE (R161). -/
theorem enterOnline (h : s.LifeLawful) (joining : s.ctl.state = .joining) : s.enterOnline.LifeLawful := by
  have moved := h.moves (by simp [joining]) { s.ctl with state := .online, listenTimer := none }
    (fun a ha hk hi => by simp [h.leave a ha hk hi] at joining) (h.not_reset (by simp [joining]))
  exact (moved.withRoster _).withDlv _ id id

/-- Entry to LEAVING (R162): the queues and the home are emptied, every slot ends, and so does the stalled read. -/
theorem enterLeaving (h : s.LifeLawful) (online : s.ctl.state = .online) : s.enterLeaving.LifeLawful where
  home _ := by simp [State.enterLeaving]
  requests _ := by simp [State.enterLeaving, State.leaveDelivery]
  responses _ := by simp [State.enterLeaving, State.leaveDelivery]
  closed _ t r hr := by
    rw [State.enterLeaving, slot_loseSlots] at hr
    split at hr
    · exact SlotRecord.isOpen_of_lose hr
    · cases hr
  timers t r hr window := by
    obtain ⟨r₀, h₀, becomes⟩ := (Serves.loseSlots (s := _) _ _).slots t r hr
    exact becomes.timer.elim id fun same => same.trans (h.timers t r₀ h₀ (becomes.origin ▸ window))
  stall t n stalled := by
    exfalso
    rcases loseSlots_port _ (fun _ => true) .localLeave with ⟨port, kept⟩ | ⟨_, _, _, _, _, _, _, port⟩
    · have before := (congrArg LocalPort.window port).symm.trans stalled
      obtain ⟨_, _, r, hr, awaits⟩ := h.stall t n before
      have := kept t n r before hr (SlotRecord.isOpen_of_awaitsRead awaits)
      cases this
    · exact absurd ((congrArg LocalPort.window port).symm.trans stalled) nofun
  leave a ha _ counts := by
    simp [State.enterLeaving, State.ignoreAttempt] at ha
    obtain ⟨a₀, _, rfl⟩ := ha
    cases counts
  reset asserted := absurd (by simpa [State.enterLeaving] using asserted) (h.not_reset (by simp [online]))

theorem submitLeave (h : s.LifeLawful) : s.submitLeave.LifeLawful := by
  unfold State.submitLeave
  split
  · next online => exact (h.enterLeaving online).setResult _
  · exact h.setResult _

/-- LEAVING ends (R163). -/
theorem endLeaving (h : s.LifeLawful) (leaving : s.ctl.state = .leaving) : s.endLeaving.LifeLawful := by
  have ignored : s.ignoreAttempt.LifeLawful := h.withBus _ fun a ha _ counts => by
    obtain ⟨_, _, rfl⟩ := Option.map_eq_some_iff.mp ha
    cases counts
  have gone : ∀ a, s.ignoreAttempt.bus.attempt = some a → a.ignored = false → False := by
    intro a ha counts
    obtain ⟨_, _, rfl⟩ := Option.map_eq_some_iff.mp ha
    cases counts
  have moved := ignored.moves (by simp [leaving])
    { s.ctl with state := .config, previousEpoch := some s.ctl.cfg.epoch, leavingTimer := none }
    (fun a ha _ counts => (gone a ha counts).elim) (h.not_reset (by simp [leaving]))
  exact (moved.withDlv { s.dlv with leaveDue := false } id id).withRoster _

theorem powerOn (straps : Straps) (q : List Instr) : (State.powerOn straps q).LifeLawful where
  home _ := rfl
  requests _ := rfl
  responses _ := rfl
  closed _ t r hr := by simp [State.powerOn, slot, RequestController.empty, Vector.get] at hr
  timers t r hr := by simp [State.powerOn, slot, RequestController.empty, Vector.get] at hr
  stall t n stalled := by cases stalled
  leave a ha := by cases ha
  reset asserted := by cases asserted

theorem portResetValues (s : State) : s.portResetValues.LifeLawful :=
  { powerOn { stationNumber := s.ctl.number, rateClass := s.ctl.rateClass } s.pending with
    leave := fun a ha => by cases ha
    reset := fun _ => ⟨rfl, rfl⟩ }

/-- The release of RST- leaves the station in CONFIG (R165). -/
theorem releasePortReset (h : s.LifeLawful) (straps : Straps) (asserted : s.ctl.resetAsserted = true) :
    (s.releasePortReset straps).LifeLawful := by
  obtain ⟨config, _⟩ := h.reset asserted
  exact h.moves (by simp [config]) _ (fun a ha hk hi => by simp [h.leave a ha hk hi] at config) nofun

/-! ## The bus access unit and the delivery unit -/

/-- An attempt begins: a LEAVE in LEAVING only (R119). -/
theorem beginAttempt (h : s.LifeLawful) (k : AttemptKind) (f : Frame) (leave : k = .leave → s.ctl.state = .leaving) :
    (s.beginAttempt k f).LifeLawful :=
  h.withBus _ fun a ha hk _ => by
    obtain rfl := Option.some.inj ha
    exact leave hk

theorem attemptAddressed (h : s.LifeLawful) (q : OutQueue) (d : Station) (b : FrameBody) :
    (s.attemptAddressed q d b).LifeLawful :=
  (h.setSend _ _).beginAttempt _ _ nofun

theorem chooseAndSend (h : s.LifeLawful) : s.chooseAndSend.LifeLawful := by
  unfold State.chooseAndSend
  split
  · split
    · exact (h.withDlv _ (by exact id) (by exact id)).beginAttempt _ _ nofun
    · split
      · exact h.attemptAddressed _ _ _
      · split
        · exact h.attemptAddressed _ _ _
        · exact h
  · next leaving =>
    split
    · exact (h.withDlv _ (by exact id) (by exact id)).beginAttempt _ _ fun _ => leaving
    · exact h
  · exact h
  · exact h

theorem acceptStarted (h : s.LifeLawful) (d : Station) (f : StartedFrame) : (s.acceptStarted d f).LifeLawful := by
  unfold State.acceptStarted
  dsimp only
  split
  · exact (h.setSend _ _).setPeer _ _
  · exact h.setSend _ _

theorem frameAccepted (h : s.LifeLawful) (d : Station) (q : OutQueue) (f : StartedFrame) :
    (s.frameAccepted d q f).LifeLawful := by
  have accepted := h.acceptStarted d f
  unfold State.frameAccepted
  dsimp only
  split
  · exact accepted.withDlv _ (by exact id) fun empty => by simp [dropOldestResponse, empty]
  · split
    · exact accepted
    · exact accepted.of_serves ((Serves.withDlv _ (by rfl) fun _ he => List.mem_of_mem_eraseP he).trans
        (.requestDeparted _ _))

theorem frameUnanswered (h : s.LifeLawful) (d : Station) : (s.frameUnanswered d).LifeLawful := by
  unfold State.frameUnanswered
  dsimp only
  split
  · exact (h.setSend _ _).purge _ _
  · exact h.setSend _ _

theorem addressedOutcome (h : s.LifeLawful) (d : Station) (q : OutQueue) (f : StartedFrame) (o : AttemptOutcome) :
    (s.addressedOutcome d q f o).LifeLawful := by
  unfold State.addressedOutcome
  split
  · exact h.frameAccepted d q f
  · exact h.of_serves (.frameNotTaken d q .busy)
  · exact h.of_serves (.frameNotTaken d q .unheard)
  · exact h.purge d .disowned
  · exact h.frameUnanswered d
  · exact h.frameUnanswered d
  · exact h

/-- The outcome of an attempt is applied; that of a LEAVE, if it counts, in LEAVING (R120 to R125, R163). -/
theorem applyOutcome (h : s.LifeLawful) (a : Attempt)
    (leave : a.kind = .leave → a.ignored = false → s.ctl.state = .leaving) : (s.applyOutcome a).LifeLawful := by
  unfold State.applyOutcome
  split
  · exact h
  · next counts =>
    split
    · split
      · exact h.of_serves .setPresenceDue
      · exact h.withRoster _
    · next kind =>
      split
      · exact h.withDlv _ (by exact id) (by exact id)
      · exact h.endLeaving (leave kind (by simpa using counts))
    · split
      · exact h.addressedOutcome _ _ _ _
      · exact h

theorem endAttempt (h : s.LifeLawful) : s.endAttempt.LifeLawful := by
  unfold State.endAttempt
  split
  · exact h
  · next a ha =>
    exact applyOutcome (h.withBus { s.bus with attempt := none } fun _ none => by cases none) a (h.leave a ha)

theorem closeWindow (h : s.LifeLawful) : s.closeWindow.LifeLawful := by
  unfold State.closeWindow
  exact h.endAttempt.withBus_same _ (BusAccess.beginCycle_attempt _ _)

/-- The attempt in flight moves to another phase. -/
theorem withPhase (h : s.LifeLawful) (a : Attempt) (ha : s.bus.attempt = some a) (b : BusAccess) (p : AttemptPhase)
    (attempt : b.attempt = some { a with phase := p }) : (s.withBus b).LifeLawful :=
  h.withBus b fun x hx => by
    obtain rfl := Option.some.inj (attempt.symm.trans hx)
    exact h.leave a ha

theorem ackMismatch (h : s.LifeLawful) (bit : Nat) : (s.ackMismatch bit).LifeLawful := by
  unfold State.ackMismatch
  split
  · split
    · exact h.withBus_same _ (by rfl)
    · exact h
  · exact h

theorem readBack (h : s.LifeLawful) (bit : Nat) : (s.readBack bit).LifeLawful := by
  unfold State.readBack
  split
  · next a ha =>
    split
    · unfold State.frameMismatch
      dsimp only
      split
      · exact (h.withPhase a ha _ .collision (by rfl)).endAttempt
      · exact h.withPhase a ha _ .collision (by rfl)
    · exact h.ackMismatch bit
  · exact h.ackMismatch bit

theorem ownFrameEnds (h : s.LifeLawful) : s.ownFrameEnds.LifeLawful := by
  unfold State.ownFrameEnds
  split
  · next a ha =>
    split
    · exact h.withPhase a ha _ .sentWhole (by rfl)
    · exact h
  · exact h

theorem beginAck (h : s.LifeLawful) : s.beginAck.LifeLawful := by
  unfold State.beginAck
  split
  · exact h
  · unfold onlyIf
    split
    · exact h.withBus_same _ (by rfl)
    · exact h

/-! ## The home steps, all in ONLINE -/

theorem appendResponse (h : s.LifeLawful) (online : s.ctl.state = .online) (e : OutResponse) :
    (s.appendResponse e).LifeLawful :=
  { h with responses := fun off => absurd online off }

theorem routeResponses (h : s.LifeLawful) (online : s.ctl.state = .online) (es : List OutResponse) :
    (s.routeResponses es).LifeLawful := by
  induction es generalizing s with
  | nil => exact h
  | cons e es ih =>
    have one : (s.routeResponse e).LifeLawful := by
      unfold State.routeResponse
      split
      · exact h.of_serves (.applyResponse _ _)
      · split
        · exact h.appendResponse online e
        · exact h
    exact ih one (by rw [routeResponse_ctl, online])

theorem carryOut (h : s.LifeLawful) (online : s.ctl.state = .online) (inbound : List InboundRequest) (x : HomeStep) :
    (s.carryOut inbound x).LifeLawful :=
  (h.withHome online _).routeResponses (by exact online) _

theorem serveAcquire (h : s.LifeLawful) : s.serveAcquire.LifeLawful := by
  unfold State.serveAcquire
  split
  · exact h
  · next allowed =>
    split
    · exact h.carryOut (online_of_serviceAllowed s allowed) _ _
    · exact h

theorem serveRelease (h : s.LifeLawful) : s.serveRelease.LifeLawful := by
  unfold State.serveRelease
  split
  · exact h
  · next allowed =>
    split
    · exact h.carryOut (online_of_serviceAllowed s allowed) _ _
    · exact h

theorem serveCancel (h : s.LifeLawful) : s.serveCancel.LifeLawful := by
  unfold State.serveCancel
  split
  · exact h
  · next allowed =>
    split
    · exact h.carryOut (online_of_serviceAllowed s allowed) _ _
    · exact h

theorem stepWalk (h : s.LifeLawful) : s.stepWalk.LifeLawful := by
  unfold State.stepWalk
  split
  · exact h
  · next taken =>
    have online : s.ctl.state = .online := by simpa using (not_or.mp taken).2
    split
    · exact h
    · split
      · exact h.withHome online _
      · exact (h.carryOut online _ _).withHome (by rw [carryOut_ctl, online]) _

theorem moveLoopback (h : s.LifeLawful) : s.moveLoopback.LifeLawful := by
  unfold State.moveLoopback
  split
  · exact h
  · next taken =>
    have online : s.ctl.state = .online := by simpa using (not_or.mp taken).1
    split
    · exact h
    · exact (h.withHome online _).of_serves ((Serves.withDlv _ (by rfl) fun _ he => List.mem_of_mem_eraseP he).trans
        (.requestDeparted _ _))

/-! ## Receipts -/

theorem dueAck (h : s.LifeLawful) (p : Station) (f : Frame) (r : AckResult) : (s.dueAck p f r).LifeLawful :=
  h.withBus_same _ rfl

/-- A frame is taken in ONLINE (R128). -/
theorem takeFrame (h : s.LifeLawful) (online : s.ctl.state = .online) (p : Station) (f : Frame) :
    (s.takeFrame p f).LifeLawful := by
  have dispatched (x : State) (hx : x.LifeLawful) (still : x.ctl.state = .online) :
      (x.dispatch p f.body).LifeLawful := by
    unfold State.dispatch
    split
    · exact hx.withHome still _
    · exact hx.of_serves (.applyResponse _ _)
    all_goals exact hx
  unfold State.takeFrame
  dsimp only
  split
  · exact dispatched _ (((h.setReceive p _).setPeer p _).dueAck p f .accept) online
  · exact dispatched _ ((h.setReceive p _).dueAck p f .accept) online

theorem admitFrame (h : s.LifeLawful) (online : s.ctl.state = .online) (p : Station) (f : Frame) :
    (s.admitFrame p f).LifeLawful := by
  unfold State.admitFrame
  split
  · split
    · exact h.dueAck p f .busy
    · exact h.takeFrame online p f
  · exact h.takeFrame online p f
  all_goals exact h

theorem receiveChecks (h : s.LifeLawful) (online : s.ctl.state = .online) (p : Station) (f : Frame) :
    (s.receiveChecks p f).LifeLawful := by
  unfold State.receiveChecks
  split
  · exact h.dueAck p f .unheard
  · exact h.dueAck p f .reject
  · exact h.dueAck p f .reject
  · split
    · exact h.dueAck p f .reject
    · split
      · exact h.dueAck p f .accept
      · split
        · exact (h.purge p .disowned).admitFrame (by rw [purge_ctl, online]) p f
        · exact h.admitFrame online p f

theorem answerWhileLeaving (h : s.LifeLawful) (p : Station) (f : Frame) : (s.answerWhileLeaving p f).LifeLawful := by
  unfold State.answerWhileLeaving
  split
  · exact h.dueAck p f .busy
  · exact h.dueAck p f .accept
  all_goals exact h

theorem syncWaitNotice (h : s.LifeLawful) (p : Station) (w : Word) : (s.syncWaitNotice p w).LifeLawful := by
  unfold State.syncWaitNotice
  split
  · exact h.purge p _
  · exact h

theorem presenceHeard (h : s.LifeLawful) (p : Station) (fresh : Bool) (e d w : Word) :
    (s.presenceHeard p fresh e d w).LifeLawful := by
  have found : (((s.setPeerState p .present).recordEpoch p e).syncWaitNotice p w).LifeLawful :=
    syncWaitNotice ((h.setPeer p _).setPeer p _) p w
  unfold State.presenceHeard
  split
  · split
    · exact h.setPeer p _
    · exact (h.purge p .mismatch).setPeer p _
  · split
    · exact found
    · exact found
    · exact found
    · split
      · exact syncWaitNotice ((h.purge p .restarted).setPeer p _) p w
      · exact h.syncWaitNotice p w

theorem leaveHeard (h : s.LifeLawful) (p : Station) : (s.leaveHeard p).LifeLawful := by
  unfold State.leaveHeard
  split
  · exact h.purge p .left
  · exact h.purge p .left
  · exact h.setPeer p _
  · exact h

theorem ackReceived (h : s.LifeLawful) (f : Frame) (n : Byte) (r : AckResult) : (s.ackReceived f n r).LifeLawful := by
  unfold State.ackReceived
  split
  · exact h
  · next a ha =>
    split
    · exact h.withBus _ fun x hx => by
        obtain rfl := Option.some.inj hx
        exact h.leave a ha
    · exact h

/-- A valid frame of a peer is handed on (R95). -/
theorem handOn (h : s.LifeLawful) (f : Frame) : (s.handOn f).LifeLawful := by
  have leaving : (if f.addressee = some s.own then s.answerWhileLeaving f.source f else s).LifeLawful := by
    split
    · exact h.answerWhileLeaving _ f
    · exact h
  unfold State.handOn
  dsimp only
  split
  · exact h
  · split
    · exact (h.setPeer _ _).setPeer _ _
    · exact h.setPeer _ _
    all_goals exact h
  · next online =>
    have checked : (if f.addressee = some s.own then s.receiveChecks f.source f else s).LifeLawful := by
      split
      · exact h.receiveChecks online _ f
      · exact h
    split
    · exact checked
    · exact checked
    · exact h.presenceHeard _ _ _ _ _
    · exact h.leaveHeard _
    · exact h.ackReceived f _ _
  · split
    · exact leaving
    · exact leaving
    · exact h.presenceHeard _ _ _ _ _
    · exact h.leaveHeard _
    · exact h.ackReceived f _ _

theorem fromSource (h : s.LifeLawful) (f : Frame) : (s.fromSource f).LifeLawful := by
  unfold State.fromSource
  split
  · exact h.withCtl _ (by rfl) (by rfl)
  · refine handOn ?_ f
    unfold State.restartSilence
    split
    · exact h.setPeer _ _
    · exact h

theorem validFrame (h : s.LifeLawful) (f : Frame) : (s.validFrame f).LifeLawful := by
  have heard : ((s.arbitratedEnds f).fromSource f).LifeLawful := fromSource (h.withBus_same _ (by rfl)) f
  unfold State.validFrame
  split
  · dsimp only
    split
    · next joining =>
      refine heard.enterOnline ?_
      rw [fromSource_state, arbitratedEnds_ctl, joining]
    · exact heard
  · exact h.fromSource f

theorem receive (h : s.LifeLawful) (rx : Reception) : (s.receive rx).LifeLawful := by
  have received : (s.withBus s.bus.transmissionReceived).LifeLawful :=
    h.withBus_same _ (BusAccess.noteTransmission_attempt s.bus)
  unfold State.receive
  split
  · exact h
  · dsimp only
    split
    · unfold State.malformed
      split
      · exact received
      · exact received.withBus_same _ (by rfl)
    · exact received.validFrame _

/-! ## The port, its cycles taken with no read stalled and no data driven -/

/-- A slot opens in ONLINE, a WINDOW slot without a timer (R47, R48). -/
theorem openSlot (h : s.LifeLawful) (online : s.ctl.state = .online) (idle : s.port.window = .idle) (t : Tag)
    (l : LockId) (m : LockMode) (w : WaitKind) (o : Origin) (home : Station) (timer : Option Nat)
    (fits : o = .window → timer = none) : (s.openSlot t l m w o home timer).LifeLawful :=
  { h with
    requests := fun off => absurd online off
    closed := fun off => absurd online off
    timers := fun u r hr window => by
      have hr : (s.setSlot t _).slot u = some r := hr
      by_cases same : t = u
      · subst same
        rw [slot_setSlot] at hr
        obtain rfl := Option.some.inj hr
        exact fits window
      · rw [slot_setSlot_of_ne s t u _ same] at hr
        exact h.timers u r hr window
    stall := fun _ _ stalled => absurd (idle.symm.trans stalled) nofun }

theorem submitAcquire (h : s.LifeLawful) (idle : s.port.window = .idle) : s.submitAcquire.LifeLawful := by
  unfold State.submitAcquire
  split
  · exact h.setResult _
  · next online =>
    split
    · split
      · exact h.setResult _
      · exact (h.openSlot (by simpa using online) idle _ _ _ _ _ _ _ (by simp)).setResult _
    · exact h.setResult _

theorem submit (h : s.LifeLawful) (idle : s.port.window = .idle) (working : ¬ s.ctl.resetAsserted = true) (v : Word) :
    (s.submit v).LifeLawful := by
  unfold State.submit
  split
  · exact h.submitAcquire idle
  · exact h.of_serves .submitRelease
  · exact h.of_serves (.submitCancel (readStalledFor_of_idle idle))
  · exact h.submitStart working
  · exact h.submitLeave
  · exact h

/-- A read that stalls drives no data yet, and its slot awaits the outcome (R186). -/
theorem acquireByWindow (h : s.LifeLawful) (idle : s.port.window = .idle) (data : s.port.dataOut = none)
    (working : ¬ s.ctl.resetAsserted = true) (m : LockMode) (l : LockId) : (s.acquireByWindow m l).LifeLawful := by
  have refused (r : SubmissionResult) : (s.refuseRead r).LifeLawful :=
    { h with
      stall := fun _ _ stalled => absurd (idle.symm.trans stalled) nofun
      reset := fun asserted => absurd asserted working }
  unfold State.acquireByWindow
  split
  · exact refused _
  · next online =>
    have online : s.ctl.state = .online := by simpa using online
    split
    · exact refused _
    · next t home _ =>
      exact { h.openSlot online idle t l m .queue .window home none fun _ => rfl with
        stall := fun u n stalled => by
          cases stalled
          exact ⟨online, data, _, slot_setSlot s t _, by simp [SlotRecord.awaitsRead]⟩ }

/-- The withdrawal of the read strobe ends the stalled read, if any, and releases the data (R167, R190). -/
theorem withdrawStrobe (h : s.LifeLawful) : s.withdrawStrobe.LifeLawful := by
  have released (p : LocalPort) (idle : p.window = .idle) (data : p.dataOut = none) : (s.withPort p).LifeLawful :=
    { h with
      stall := fun _ _ stalled => absurd (idle.symm.trans stalled) nofun
      reset := fun asserted => ⟨(h.reset asserted).1, data⟩ }
  unfold State.withdrawStrobe
  split
  · next idle => exact released _ idle rfl
  · exact (released _ (by rfl) (by rfl)).of_serves (.cancelSlot _ _ fun _ _ _ => rfl)

theorem writeConfig (h : s.LifeLawful) (f : ConfigBlock → ConfigBlock) : (s.writeConfig f).LifeLawful := by
  unfold State.writeConfig
  split
  · exact h.withCtl _ (by rfl) (by rfl)
  · exact h

theorem ite {c : Prop} [Decidable c] {a b : State} (ha : a.LifeLawful) (hb : b.LifeLawful) :
    (if c then a else b).LifeLawful := by
  split <;> assumption

/-- A port write that changes neither the stalled read nor the data driven. -/
theorem withPort (h : s.LifeLawful) (p : LocalPort) (window : p.window = s.port.window)
    (data : p.dataOut = s.port.dataOut) : (s.withPort p).LifeLawful where
  home := h.home
  requests := h.requests
  responses := h.responses
  closed := h.closed
  timers := h.timers
  stall t n stalled := by
    obtain ⟨online, none, slot⟩ := h.stall t n (window ▸ stalled)
    exact ⟨online, data.trans none, slot⟩
  leave := h.leave
  reset asserted := by
    obtain ⟨config, none⟩ := h.reset asserted
    exact ⟨config, data.trans none⟩

/-- A port write, at whatever address (R168). -/
theorem writeWord (h : s.LifeLawful) (idle : s.port.window = .idle) (working : ¬ s.ctl.resetAsserted = true)
    (a : PortAddr) (v : Word) : (s.writeWord a v).LifeLawful := by
  have config (f : ConfigBlock → ConfigBlock) : (s.writeConfig f).LifeLawful := h.writeConfig f
  exact .ite (h.withPort _ (by rfl) (by rfl)) <| .ite (config _) <| .ite (config _) <| .ite (config _) <|
    .ite (config _) <| .ite (config _) <| .ite (config _) <| .ite (h.withPort _ (by rfl) (by rfl)) <|
    .ite (h.submit idle working v) <| .ite (h.of_serves .popRecord) <| .ite (h.withPort _ (by rfl) (by rfl)) <|
    .ite (h.of_serves (.releaseByWindow _)) h

/-! ## The timers -/

/-- A slot timer runs only in a COMMAND slot, for which no read is stalled (R65, R66). -/
theorem serves_slotTimeout (h : s.LifeLawful) (t : Tag) : s.Serves (s.slotTimeout t) := by
  unfold State.slotTimeout
  split
  · exact .refl s
  · next r hr =>
    unfold onlyIf
    split
    · next runs =>
      refine .cancelSlot t _ fun a ha awaits => ?_
      obtain rfl := Option.some.inj (hr.symm.trans ha)
      simp only [SlotRecord.awaitsRead, decide_eq_true_eq] at awaits
      simp [h.timers t r hr awaits.1] at runs
    · exact .refl s

theorem silenceTimeout (h : s.LifeLawful) (p : Station) : (s.silenceTimeout p).LifeLawful := by
  have stopped := h.setPeer p { s.peer p with silenceTimer := none }
  refine .ite ?_ h
  unfold State.peerSilent
  split
  · exact stopped.purge p _
  · exact stopped.purge p _
  · exact stopped.setPeer p _
  · exact stopped

theorem listenTimeout (h : s.LifeLawful) : s.listenTimeout.LifeLawful := by
  unfold State.listenTimeout onlyIf
  split
  · next expires => exact h.enterOnline expires.1
  · exact h

theorem leavingTimeout (h : s.LifeLawful) : s.leavingTimeout.LifeLawful := by
  unfold State.leavingTimeout onlyIf
  split
  · next expires => exact h.endLeaving expires.1
  · exact h

/-! ## Every command -/

theorem running (h : s.LifeLawful) {f : State → State} (kept : (f s).LifeLawful) :
    (running s f).LifeLawful :=
  .ite h kept

/-- A port cycle is taken with no read stalled, no data driven and RST- not asserted (R167). -/
theorem portCycle (h : s.LifeLawful) {f : State → State}
    (kept : ∀ x : State, x.LifeLawful → x.portFree → x.port.dataOut = none → (f x).LifeLawful) :
    (portCycle s f).LifeLawful := by
  unfold Machine.portCycle
  split
  · exact h
  · next free =>
    obtain ⟨working, idle⟩ := not_or.mp free
    have idle : s.port.window = .idle := by simpa using idle
    have taken : (s.withPort { s.port with dataOut := none }).LifeLawful :=
      { h with
        stall := fun _ _ stalled => absurd (idle.symm.trans stalled) nofun
        reset := fun asserted => absurd asserted working }
    exact kept _ taken ⟨by simpa using working, idle⟩ rfl

/-- Every command keeps the invariant. -/
theorem exec (h : s.LifeLawful) (i : Instr) {x : State} (done : exec i s = .next x) : x.LifeLawful := by
  cases i <;> cases done
  case acquire => exact h.portCycle fun _ hx free _ => hx.submitAcquire free.2
  case release => exact h.portCycle fun _ hx _ _ => hx.of_serves .submitRelease
  case cancel => exact h.portCycle fun _ hx free _ => hx.of_serves (.submitCancel (readStalledFor_of_idle free.2))
  case start => exact h.portCycle fun _ hx free _ => hx.submitStart (by simp [free.1])
  case leave => exact h.portCycle fun _ hx _ _ => hx.submitLeave
  case pop => exact h.portCycle fun _ hx _ _ => hx.of_serves .popRecord
  case interruptEnable => exact h.portCycle fun _ hx _ _ => hx.withPort _ (by rfl) (by rfl)
  case registerWrite a v => exact h.portCycle fun _ hx free _ => hx.writeWord free.2 (by simp [free.1]) a v
  case acquireWindowRead m l =>
    exact h.portCycle fun _ hx free data => hx.acquireByWindow free.2 data (by simp [free.1]) m l
  case releaseWindowWrite l v => exact h.portCycle fun _ hx _ _ => hx.of_serves (.releaseByWindow l)
  case readStrobeWithdrawal => exact h.running h.withdrawStrobe
  case windowWaitLimitExpiry => exact h.running (h.of_serves .windowLimit)
  case powerOnReset straps => exact powerOn straps _
  case portReset => exact portResetValues s
  case portResetRelease straps =>
    unfold onlyIf
    split
    · next asserted => exact h.releasePortReset straps asserted
    · exact h
  case slotTimerExpiry t => exact h.running (h.of_serves (h.serves_slotTimeout t))
  case acquireAtHome => exact h.running h.serveAcquire
  case releaseAtHome => exact h.running h.serveRelease
  case cancelAtHome => exact h.running h.serveCancel
  case walkStep => exact h.running h.stepWalk
  case loopbackMove => exact h.running h.moveLoopback
  case sendingOpportunity => exact h.running (.ite (chooseAndSend (h.withBus_same _ rfl)) h)
  case readBackMismatch bit => exact h.running (h.readBack bit)
  case ownTransmissionEnd => exact h.running h.ownFrameEnds
  case windowClose => exact h.running (.ite h.closeWindow h)
  case ackTransmission => exact h.running h.beginAck
  case holdOffExpiry d => exact h.running (.ite (h.setSend d _) h)
  case startupLineIdle => exact h.running (.ite (h.withBus_same _ rfl) h)
  case requestFrameReceipt ls => exact h.running (h.receive _)
  case responseFrameReceipt ls => exact h.running (h.receive _)
  case presenceReceipt ls => exact h.running (h.receive _)
  case leaveFrameReceipt ls => exact h.running (h.receive _)
  case ackReceipt ls => exact h.running (h.receive _)
  case malformedFrame ls => exact h.running (h.receive _)
  case presenceTimerExpiry => exact h.running (.ite ((h.of_serves .setPresenceDue).withRoster _) h)
  case silenceTimerExpiry p => exact h.running (h.silenceTimeout p)
  case listenTimerExpiry => exact h.running h.listenTimeout
  case leavingTimerExpiry => exact h.running h.leavingTimeout
  case transmissionBegin => exact h.running (.ite (h.withBus_same _ (BusAccess.noteTransmission_attempt s.bus)) h)

/-- Every step keeps the invariant. -/
theorem step (h : s.LifeLawful) {x : State} (done : step s = .next x) : x.LifeLawful := by
  unfold Machine.step at done
  split at done
  · cases done
    exact h
  · exact (h.withPending _).exec _ done

end LifeLawful
end State

/-- Settles O59: the two invariants with their parts named, each kept by every command from itself alone. -/
theorem lifeAndBusInvKept : Obligations.LifeAndBusInvKept := by
  intro s t done
  exact ⟨fun life => t.lifeLawful_iff.mp ((s.lifeLawful_iff.mpr life).step done),
    fun bus => t.lineLawful_iff.mp ((s.lineLawful_iff.mpr bus).step done)⟩

end Sys2Proof.Machine

/-! # Walks and links (R33 to R36, R137, R141, R142)

`HomeController.WalkLawful` is the pending-purge set and the walk as they may stand; `State.LinkFits`, below, is the
invariant of the links with its parts named. -/

namespace Sys2Proof.Machine

/-! ## The stations of an entry after a step -/

theorem HomeEntry.involves_iff (e : HomeEntry) (p : Station) : e.involves p = true ↔ p ∈ e.stations := by
  simp [involves, stations]

/-- The SHARED waiters that join a hold and those that stay behind were the queue. -/
theorem mem_of_joined {ws : List Waiter} {hs : List Holder} {q : Station}
    (h : q ∈ (addHolders (ws.takeWhile Waiter.wantsShared) hs).map Holder.station ∨
      q ∈ (ws.dropWhile Waiter.wantsShared).map Waiter.station) :
    q ∈ hs.map Holder.station ∨ q ∈ ws.map Waiter.station := by
  rcases h with joined | behind
  · obtain ⟨k, hk, rfl⟩ := List.mem_map.mp joined
    rcases (mem_addHolders _ hs k).mp hk with ⟨w, hw, rfl⟩ | old
    · exact .inr (List.mem_map.mpr ⟨w, (List.takeWhile_sublist _).subset hw, rfl⟩)
    · exact .inl (List.mem_map_of_mem old)
  · obtain ⟨w, hw, rfl⟩ := List.mem_map.mp behind
    exact .inr (List.mem_map_of_mem ((List.dropWhile_sublist _).subset hw))

/-- A reassessment brings no new station into an entry (R31). -/
theorem reassess_stations (e : HomeEntry) (q : Station) (h : q ∈ (reassess e).1.stations) : q ∈ e.stations := by
  unfold reassess at h
  split at h
  · exact List.mem_append.mpr (mem_of_joined (List.mem_append.mp h))
  · exact h
  · exact h

/-- A regrant brings no new station into an entry (R28, R29). -/
theorem regrant_stations (e : HomeEntry) (q : Station) (h : q ∈ (regrant e).1.stations) : q ∈ e.stations := by
  cases hw : e.waiters with
  | nil => simpa only [regrant, hw] using h
  | cons w rest =>
    cases hm : w.mode with
    | exclusive =>
      rw [regrant_exclusive e w rest hw hm] at h
      refine List.mem_append_right _ ?_
      simpa [HomeEntry.stations, HomeEntry.grantedHead, Waiter.toHolder, hw] using h
    | shared =>
      rw [regrant_shared e w rest hw hm] at h
      rcases mem_of_joined (List.mem_append.mp h) with new | old
      · simp at new
      · exact List.mem_append_right _ old

/-- What follows the removal of a holder brings no new station into an entry (R27 to R30). -/
theorem afterHolderLeft_stations (e x : HomeEntry) (q : Station) (left : (afterHolderLeft e).1 = some x)
    (h : q ∈ x.stations) : q ∈ e.stations := by
  unfold afterHolderLeft at left
  split at left
  · cases left
    exact h
  · split at left
    · cases left
      exact regrant_stations e q h
    · split at left <;> cases left
      exact h

/-- A station that is taken out of an entry's queue is out of the entry (R12). -/
theorem HomeEntry.dropWaiter_gone (e : HomeEntry) (law : e.lawful) (w : Waiter) (hw : w ∈ e.waiters) :
    w.station ∉ (e.dropWaiter w.station w.tag).stations := by
  have different := HomeEntry.different_of_lawful law
  obtain ⟨_, queue, apart⟩ := List.nodup_append.mp different
  intro h
  rcases List.mem_append.mp h with holder | waiter
  · exact apart _ holder _ (List.mem_map_of_mem hw) rfl
  · obtain ⟨y, hy, same⟩ := List.mem_map.mp waiter
    obtain ⟨old, other⟩ := List.mem_filter.mp hy
    have := List.inj_on_of_nodup_map queue old hw same
    simp [this] at other

/-- A station that is taken out of an entry's holders is out of the entry (R12). -/
theorem HomeEntry.dropHolder_gone (e : HomeEntry) (law : e.lawful) (k : Holder) (hk : k ∈ e.holders) :
    k.station ∉ (e.dropHolder k.station k.tag).stations := by
  have different := HomeEntry.different_of_lawful law
  obtain ⟨held, _, apart⟩ := List.nodup_append.mp different
  intro h
  rcases List.mem_append.mp h with holder | waiter
  · obtain ⟨y, hy, same⟩ := List.mem_map.mp holder
    obtain ⟨old, other⟩ := List.mem_filter.mp hy
    have := List.inj_on_of_nodup_map held old hk same
    simp [this] at other
  · exact apart _ (List.mem_map_of_mem hk) _ waiter rfl

/-! ## The table in its order -/

/-- A lock has one entry in a table in ascending order. -/
theorem eq_of_lock {table : List HomeEntry} (asc : (table.map (fun y => y.lock.toNat)).Pairwise (· < ·))
    {x y : HomeEntry} (hx : x ∈ table) (hy : y ∈ table) (same : x.lock = y.lock) : x = y :=
  List.inj_on_of_nodup_map (asc.imp (fun lt => Nat.ne_of_lt lt)) hx hy (congrArg BitVec.toNat same)

/-- An entry of the table after a step stored what it left of one: that, or an entry of another lock. -/
theorem mem_storeEntry {table : List HomeEntry} (asc : (table.map (fun y => y.lock.toNat)).Pairwise (· < ·))
    {l : LockId} {r : Option HomeEntry} (own : ∀ e, r = some e → e.lock = l) {x : HomeEntry}
    (hx : x ∈ storeEntry l r table) : r = some x ∨ x ∈ table ∧ x.lock ≠ l := by
  cases r with
  | none =>
    obtain ⟨old, other⟩ := List.mem_filter.mp hx
    exact .inr ⟨old, by simpa using other⟩
  | some e =>
    have lock := own e rfl
    by_cases same : x.lock = l
    · have stored := findEntry_mem _ _ _ (findEntry_putEntry e table)
      exact .inl (congrArg some (eq_of_lock (putEntry_ascending e table asc) stored hx (lock.trans same.symm)))
    · refine .inr ⟨(mem_putEntry e x table hx).resolve_left ?_, same⟩
      rintro rfl
      exact same lock

/-- The entry a walk step visits has the lowest lock ID at or above the position (R35). -/
theorem nextEntry_spec {table : List HomeEntry} (asc : (table.map (fun y => y.lock.toNat)).Pairwise (· < ·))
    {position : Nat} {e : HomeEntry} (found : nextEntry table position = some e) :
    e ∈ table ∧ ∀ x ∈ table, position ≤ x.lock.toNat → e.lock.toNat ≤ x.lock.toNat := by
  obtain ⟨_, before, after, whole, below⟩ := List.find?_eq_some_iff_append.mp found
  refine ⟨List.mem_of_find?_eq_some found, fun x hx above => ?_⟩
  rw [whole] at asc hx
  rcases List.mem_append.mp hx with old | old
  · have := below x old
    simp [above] at this
  · rcases List.mem_cons.mp old with rfl | later
    · exact le_refl _
    · rw [List.map_append, List.map_cons] at asc
      have ahead := (List.pairwise_cons.mp (List.pairwise_append.mp asc).2.1).1
      exact (ahead _ (List.mem_map_of_mem later)).le

/-- From lock ID 0 a table that is not empty has an entry to visit. -/
theorem nextEntry_zero (x : HomeEntry) (xs : List HomeEntry) : (nextEntry (x :: xs) 0).isSome = true := by
  simp [nextEntry]

/-- After a visit the walked station is in no entry up to the visited one (R35). -/
theorem visitStep_behind {table : List HomeEntry} (law : tableLawful table) {p : Station} {position : Nat}
    {e : HomeEntry} (found : nextEntry table position = some e)
    (behind : ∀ x ∈ table, x.lock.toNat < position → x.involves p = false) :
    ∀ x ∈ (visitStep table p e).table, x.lock.toNat < e.lock.toNat + 1 → x.involves p = false := by
  have asc := law.1
  obtain ⟨he, lowest⟩ := nextEntry_spec asc found
  have lawful := lawful_of_mem law he
  have below : ∀ x ∈ table, x.lock ≠ e.lock → x.lock.toNat < e.lock.toNat + 1 → x.involves p = false := by
    intro x hx other upTo
    refine behind x hx (Nat.lt_of_not_le fun above => other (BitVec.eq_of_toNat_eq ?_))
    have := lowest x hx above
    omega
  have stored : ∀ r, (∀ a, r = some a → a.lock = e.lock ∧ p ∉ a.stations) →
      ∀ x ∈ storeEntry e.lock r table, x.lock.toNat < e.lock.toNat + 1 → x.involves p = false := by
    intro r gone x hx upTo
    rcases mem_storeEntry asc (fun a ha => (gone a ha).1) hx with new | ⟨old, other⟩
    · have := (gone x new).2
      rwa [← HomeEntry.involves_iff, Bool.not_eq_true] at this
    · exact below x old other upTo
  unfold visitStep
  split
  · next w hw =>
    have mem := List.mem_of_find?_eq_some hw
    obtain rfl : w.station = p := by simpa using List.find?_some hw
    refine stored (some _) fun a ha => ?_
    obtain rfl := Option.some.inj ha
    exact ⟨((dropWaiter_leavesLawful e _ w.tag lawful).1 _ rfl).2.1,
      fun inside => e.dropWaiter_gone lawful w mem (reassess_stations _ _ inside)⟩
  · next noWaiter =>
    split
    · next k hk =>
      have mem := List.mem_of_find?_eq_some hk
      obtain rfl : k.station = p := by simpa using List.find?_some hk
      refine stored _ fun a ha => ?_
      exact ⟨((dropHolder_leavesLawful_same e _ k.tag lawful).1 a ha).2.1,
        fun inside => e.dropHolder_gone lawful k mem (afterHolderLeft_stations _ a _ ha inside)⟩
    · next noHolder =>
      intro x hx upTo
      by_cases other : x.lock = e.lock
      · obtain rfl := eq_of_lock asc hx he other
        simp only [List.find?_eq_none, decide_eq_true_eq] at noWaiter noHolder
        simpa [HomeEntry.involves] using ⟨noHolder, noWaiter⟩
      · exact below x hx other upTo

/-! ## The pending-purge set and the walk -/

/-- A station that joins the pending-purge set stands in its place (log 22). -/
theorem insertStation_ascending (p : Station) (l : List Station) (asc : l.Pairwise (fun a b => a.val < b.val)) :
    (insertStation p l).Pairwise (fun a b => a.val < b.val) := by
  induction l with
  | nil => simp [insertStation]
  | cons x xs ih =>
    obtain ⟨first, rest⟩ := List.pairwise_cons.mp asc
    unfold insertStation
    split
    · next below =>
      refine List.pairwise_cons.mpr ⟨fun y hy => ?_, asc⟩
      rcases List.mem_cons.mp hy with rfl | later
      · exact below
      · exact below.trans (first y later)
    · split
      · exact asc
      · next notBelow other =>
        refine List.pairwise_cons.mpr ⟨fun y hy => ?_, ih rest⟩
        rcases (mem_insertStation p y xs).mp hy with rfl | old
        · have : y.val ≠ x.val := fun same => other (Fin.ext same)
          omega
        · exact first y old

/-- The pending-purge set in its order and without this station, and a walk of another station that has left nothing of
it behind (R33 to R35). -/
structure HomeController.WalkSafe (h : HomeController) (own : Station) : Prop where
  ascending : h.pendingPurge.Pairwise (fun p q => p.val < q.val)
  notOwn : own ∉ h.pendingPurge
  station : ∀ w, h.walk = some w → w.station ≠ own
  behind : ∀ w, h.walk = some w → ∀ e ∈ h.table, e.lock.toNat < w.position → e.involves w.station = false

/-- With no walk no purge is pending, and a walk has an entry left (R34, R36). -/
structure HomeController.WalkLawful (h : HomeController) (own : Station) : Prop extends h.WalkSafe own where
  quiet : h.walk = none → h.pendingPurge = []
  goesOn : ∀ w, h.walk = some w → w.goesOn h.table = true

namespace HomeController

variable {h : HomeController} {own : Station}

theorem WalkLawful.empty (own : Station) : HomeController.empty.WalkLawful own where
  ascending := .nil
  notOwn := List.not_mem_nil
  station w hw := by cases hw
  behind w hw := by cases hw
  quiet _ := rfl
  goesOn w hw := by cases hw

/-- A home without a walk is lawful when no purge is pending. -/
theorem WalkLawful.of_idle (walk : h.walk = none) (pending : h.pendingPurge = []) : h.WalkLawful own where
  ascending := by simp [pending]
  notOwn := by simp [pending]
  station w hw := by simp [walk] at hw
  behind w hw := by simp [walk] at hw
  quiet _ := pending
  goesOn w hw := by simp [walk] at hw

/-- The next walk begins with the lowest station pending, over a table that is not empty (R34). -/
theorem WalkSafe.begins (safe : h.WalkSafe own) {p : Station} {ps : List Station} (pending : h.pendingPurge = p :: ps)
    {e : HomeEntry} {es : List HomeEntry} (table : h.table = e :: es) :
    ({ h with walk := some { station := p, position := 0 }, pendingPurge := ps } : HomeController).WalkLawful own := by
  obtain ⟨asc, notOwn, _, _⟩ := safe
  rw [pending] at asc notOwn
  exact {
    ascending := (List.pairwise_cons.mp asc).2
    notOwn := fun mem => notOwn (List.mem_cons_of_mem _ mem)
    station := by
      rintro _ ⟨⟩ rfl
      exact notOwn List.mem_cons_self
    behind := by
      rintro _ ⟨⟩ _ _ below
      exact absurd below (Nat.not_lt_zero _)
    quiet := nofun
    goesOn := by
      rintro _ ⟨⟩
      rw [Walk.goesOn, table]
      exact nextEntry_zero e es }

/-- A walk with nothing left ends, and the next one begins (R34, R36; log 20). -/
theorem WalkSafe.settleWalk (safe : h.WalkSafe own) : (settleWalk h).WalkLawful own := by
  unfold Machine.settleWalk
  split
  · next w walk =>
    split
    · next on =>
      refine { safe with quiet := fun none => ?_, goesOn := fun x hx => ?_ }
      · simp [none] at walk
      · obtain rfl := Option.some.inj (walk.symm.trans hx)
        exact on
    · split
      · exact .of_idle rfl rfl
      · next pending => exact .of_idle rfl pending
      · next table pending => exact safe.begins pending table
  · next walk =>
    split
    · exact .of_idle walk rfl
    · next pending => exact .of_idle walk pending
    · next table pending => exact safe.begins pending table

/-- A purge of a peer is recorded for a walk, or absorbed (R33, R40). -/
theorem WalkLawful.purge (law : h.WalkLawful own) (online : Bool) (p : Station) (peer : p ≠ own) :
    (h.purge online p).WalkLawful own := by
  unfold HomeController.purge
  dsimp only
  split
  · exact { law with }
  · split
    · exact { law with }
    · refine WalkSafe.settleWalk { law.toWalkSafe with
        ascending := insertStation_ascending p _ law.ascending
        notOwn := fun mem => ?_ }
      rcases (mem_insertStation p own _).mp mem with same | old
      · exact peer same.symm
      · exact law.notOwn old

end HomeController
end Sys2Proof.Machine

/-! # The links to the peers (R118, R137, R139, R141, R142, R165) -/

namespace Sys2Proof.Machine

/-! ## A purge, block by block (R133, R138, R139) -/

/-- An attempt whose outcome still counts after a purge is not to the purged peer, and is as it was (R125). -/
theorem Attempt.abandonTo_counts {a : Attempt} {p : Station} (counts : (a.abandonTo p).ignored = false) :
    a.abandonTo p = a ∧ ∀ q, a.kind ≠ .addressed p q := by
  unfold Attempt.abandonTo at counts ⊢
  cases hk : a.kind with
  | presence => simp
  | leave => simp
  | addressed d q =>
    simp only [hk] at counts ⊢
    by_cases same : d = p
    · simp [same] at counts
    · simp [same]

namespace State

/-- The delivery unit after a purge (R133). -/
theorem purge_dlv (s : State) (p : Station) (c : PurgeCause) : (s.purge p c).dlv = { s.dlv with
    requests := s.dlv.requests.filter (fun e => decide (e.destination ≠ p)),
    responses := s.dlv.responses.filter (fun e => decide (e.destination ≠ p)),
    send := vset s.dlv.send p (s.sendRecord p).purged,
    receive := vset s.dlv.receive p none } := by
  simp [purge, purgeDelivery]

theorem purge_own (s : State) (p : Station) (c : PurgeCause) : (s.purge p c).own = s.own := by
  rw [State.own, purge_ctl, State.own]

/-- The roster after a purge (R139). -/
theorem purge_roster (s : State) (p : Station) (c : PurgeCause) : (s.purge p c).roster = { s.roster with
    peers := vset s.roster.peers p { s.peer p with state := c.stateAfter, syncOut := true, syncIn := true } } := by
  simp [purge, purgeRoster, setPeer]
  rfl

/-- A peer record after a purge (R139). -/
theorem peer_purge (s : State) (p q : Station) (c : PurgeCause) : (s.purge p c).peer q =
    if p = q then { s.peer p with state := c.stateAfter, syncOut := true, syncIn := true } else s.peer q := by
  rw [peer, purge_roster, vset_get, peer, peer]

end State

/-! ## The invariant -/

/-- The links to the peers: an addressed attempt whose outcome counts goes to a PRESENT peer in ONLINE; a peer that is
not PRESENT has both sync flags set; open slots and request frames are of homes that can be reached, and responses go to
PRESENT peers; the walk is lawful. -/
structure State.LinkFits (s : State) : Prop where
  attempt : ∀ a d q, s.bus.attempt = some a → a.kind = .addressed d q → a.ignored = false →
    d ≠ s.own ∧ (s.peer d).state = .present ∧ s.ctl.state = .online
  flags : ∀ p, p ≠ s.own → (s.peer p).state ≠ .present → (s.peer p).syncOut = true ∧ (s.peer p).syncIn = true
  slots : ∀ t r, s.slot t = some r → r.isOpen = true → s.homeUsable r.home
  requests : ∀ e ∈ s.dlv.requests, s.homeUsable e.destination
  responses : ∀ e ∈ s.dlv.responses, s.presentPeer e.destination
  home : s.home.WalkLawful s.own

/-- The links of a working station fit. -/
structure State.LinkLawful (s : State) : Prop extends s.LinkFits where
  working : ¬ s.ctl.resetAsserted = true

namespace State

theorem addressedAttemptFits_iff (s : State) : s.addressedAttemptFits = true ↔ ∀ a d q, s.bus.attempt = some a →
    a.kind = .addressed d q → a.ignored = false → d ≠ s.own ∧ (s.peer d).state = .present ∧ s.ctl.state = .online := by
  unfold addressedAttemptFits
  cases s.bus.attempt with
  | none => simp
  | some a =>
    have here : (∀ a' d q, some a = some a' → a'.kind = .addressed d q → a'.ignored = false → d ≠ s.own ∧
        (s.peer d).state = .present ∧ s.ctl.state = .online) ↔ ∀ d q, a.kind = .addressed d q → a.ignored = false →
        d ≠ s.own ∧ (s.peer d).state = .present ∧ s.ctl.state = .online :=
      ⟨fun h d q => h a d q rfl, fun h _ d q same => Option.some.inj same ▸ h d q⟩
    rw [here]
    dsimp only
    cases a.kind with
    | presence => simp
    | leave => simp
    | addressed d q => simp [or_iff_not_imp_left]

theorem reachable_iff (s : State) (d : Station) : s.reachable d = true ↔ s.homeUsable d := by
  simp [reachable]

theorem walkFits_iff (s : State) : s.walkFits = true ↔ (s.home.walk = none → s.home.pendingPurge = []) ∧
    (∀ w, s.home.walk = some w → w.goesOn s.home.table = true) ∧ (∀ w, s.home.walk = some w → w.station ≠ s.own) ∧
    ∀ w, s.home.walk = some w → ∀ e ∈ s.home.table, e.lock.toNat < w.position → e.involves w.station = false := by
  unfold walkFits
  cases s.home.walk with
  | none => simp
  | some w => simp [and_assoc, or_iff_not_imp_left]

/-- The invariant is the one the statement names. -/
theorem peerInv_iff (s : State) :
    PeerInv s ↔ s.LinkFits ∧ (s.ctl.resetAsserted = true → s.roster = PeerRoster.unheard) := by
  have slots : (∀ t, s.slotIs t (fun r => !r.isOpen || s.reachable r.home) = true) ↔
      ∀ t r, s.slot t = some r → r.isOpen = true → s.homeUsable r.home := by
    simp [slotIs_iff, reachable_iff, or_iff_not_imp_left]
  have requests : (∀ e ∈ s.dlv.requests, s.reachable e.destination = true) ↔
      ∀ e ∈ s.dlv.requests, s.homeUsable e.destination := by
    simp only [reachable_iff]
  constructor
  · rintro ⟨attempt, flags, slotsFit, requestsFit, responses, asc, notOwn, walk, reset⟩
    obtain ⟨quiet, goesOn, station, behind⟩ := s.walkFits_iff.mp walk
    exact ⟨⟨s.addressedAttemptFits_iff.mp attempt, flags, slots.mp slotsFit, requests.mp requestsFit, responses,
      ⟨⟨asc, notOwn, station, behind⟩, quiet, goesOn⟩⟩, reset⟩
  · rintro ⟨⟨attempt, flags, slotsFit, requestsFit, responses, ⟨⟨asc, notOwn, station, behind⟩, quiet, goesOn⟩⟩, reset⟩
    exact ⟨s.addressedAttemptFits_iff.mpr attempt, flags, slots.mpr slotsFit, requests.mpr requestsFit, responses, asc,
      notOwn, s.walkFits_iff.mpr ⟨quiet, goesOn, station, behind⟩, reset⟩

namespace LinkLawful

variable {s x : State}

/-- A working station with its links in order meets the invariant. -/
theorem peerInv (h : s.LinkLawful) : PeerInv s :=
  s.peerInv_iff.mpr ⟨h.toLinkFits, fun asserted => absurd asserted h.working⟩

theorem ite {c : Prop} [Decidable c] {a b : State} (ha : a.LinkLawful) (hb : b.LinkLawful) :
    (if c then a else b).LinkLawful := by
  split <;> assumption

/-- The request controller's operations keep it: a slot keeps its home, and a frame goes to it. -/
theorem of_serves (h : s.LinkLawful) (served : s.Serves x) : x.LinkLawful := by
  have own : x.own = s.own := congrArg StationController.number served.ctl
  have peer (p : Station) : x.peer p = s.peer p := by rw [State.peer, served.roster, State.peer]
  have usable (d : Station) (hd : s.homeUsable d) : x.homeUsable d := by simpa only [homeUsable, own, peer] using hd
  refine ⟨⟨?_, ?_, ?_, ?_, ?_, ?_⟩, ?_⟩
  · rw [served.bus, own, served.ctl]
    simpa only [peer] using h.attempt
  · simpa only [peer, own] using h.flags
  · intro t r hr isOpen
    obtain ⟨r₀, h₀, becomes⟩ := served.slots t r hr
    rw [becomes.home]
    exact usable _ (h.slots t r₀ h₀ (becomes.wasOpen isOpen))
  · intro e he
    rcases served.requests e he with old | ⟨t, r, hr, isOpen, dest⟩
    · exact usable _ (h.requests e old)
    · rw [dest]
      exact usable _ (h.slots t r hr isOpen)
  · intro e he
    rw [served.responses] at he
    simpa only [presentPeer, own, peer] using h.responses e he
  · rw [served.home, own]
    exact h.home
  · rw [served.ctl]
    exact h.working

/-! ## One block at a time -/

theorem withPort (h : s.LinkLawful) (p : LocalPort) : (s.withPort p).LinkLawful := { h with }
theorem setResult (h : s.LinkLawful) (r : SubmissionResult) : (s.setResult r).LinkLawful := { h with }
theorem setSend (h : s.LinkLawful) (p : Station) (r : SendRecord) : (s.setSend p r).LinkLawful := { h with }
theorem setReceive (h : s.LinkLawful) (p : Station) (r : Option ReceiveRecord) : (s.setReceive p r).LinkLawful :=
  { h with }

/-- The delivery unit changes with no new frame. -/
theorem withDlv (h : s.LinkLawful) (d : FrameDelivery) (requests : ∀ e ∈ d.requests, e ∈ s.dlv.requests)
    (responses : ∀ e ∈ d.responses, e ∈ s.dlv.responses) : (s.withDlv d).LinkLawful :=
  { h with
    requests := fun e he => h.requests e (requests e he)
    responses := fun e he => h.responses e (responses e he) }

/-- The delivery unit's queues stay as they are. -/
theorem withDlv_same (h : s.LinkLawful) (d : FrameDelivery) (requests : d.requests = s.dlv.requests)
    (responses : d.responses = s.dlv.responses) : (s.withDlv d).LinkLawful :=
  h.withDlv d (fun _ he => requests ▸ he) fun _ he => responses ▸ he

/-- The line changes with no new addressed attempt whose outcome counts. -/
theorem withBus (h : s.LinkLawful) (b : BusAccess)
    (attempt : ∀ a d q, b.attempt = some a → a.kind = .addressed d q → a.ignored = false → s.presentPeer d ∧
      s.ctl.state = .online) : (s.withBus b).LinkLawful :=
  { h with
    attempt := fun a d q ha hk hi => by
      obtain ⟨⟨other, present⟩, online⟩ := attempt a d q ha hk hi
      exact ⟨other, present, online⟩ }

theorem withBus_same (h : s.LinkLawful) (b : BusAccess) (attempt : b.attempt = s.bus.attempt) :
    (s.withBus b).LinkLawful :=
  { h with attempt := fun a d q ha => h.attempt a d q (attempt ▸ ha) }

theorem withHome (h : s.LinkLawful) (c : HomeController) (home : c.WalkLawful s.own) : (s.withHome c).LinkLawful :=
  { h with home := home }

/-- The station controller changes while state, number and RST- stay. -/
theorem withCtl (h : s.LinkLawful) (c : StationController) (state : c.state = s.ctl.state)
    (number : c.number = s.ctl.number) (reset : c.resetAsserted = s.ctl.resetAsserted) : (s.withCtl c).LinkLawful := by
  have own : (s.withCtl c).own = s.own := number
  have usable (d : Station) (hd : s.homeUsable d) : (s.withCtl c).homeUsable d :=
    hd.imp (fun same => same.trans own.symm) id
  refine ⟨⟨?_, ?_, ?_, ?_, ?_, ?_⟩, ?_⟩
  · intro a d q ha hk hi
    obtain ⟨other, present, online⟩ := h.attempt a d q ha hk hi
    exact ⟨fun same => other (same.trans own), present, state.trans online⟩
  · exact fun p other => h.flags p fun same => other (same.trans own.symm)
  · exact fun t r hr isOpen => usable _ (h.slots t r hr isOpen)
  · exact fun e he => usable _ (h.requests e he)
  · exact fun e he => ⟨fun same => (h.responses e he).1 (same.trans own), (h.responses e he).2⟩
  · rw [own]
    exact h.home
  · exact fun asserted => h.working (reset.symm.trans asserted)

/-- A peer's record changes: a PRESENT peer stays PRESENT, one that can be reached stays so, and one that is not PRESENT
has both sync flags set. -/
theorem setPeer (h : s.LinkLawful) (p : Station) (r : PeerRecord)
    (present : (s.peer p).state = .present → r.state = .present)
    (usable : (s.peer p).state = .unknown → r.state = .unknown ∨ r.state = .present)
    (flags : p ≠ s.own → r.state ≠ .present → r.syncOut = true ∧ r.syncIn = true) : (s.setPeer p r).LinkLawful := by
  have peer (q : Station) : (s.setPeer p r).peer q = if p = q then r else s.peer q := by
    simp only [State.peer, State.setPeer, roster_withRoster, vset_get]
  have stays (q : Station) (hq : (s.peer q).state = .present) : ((s.setPeer p r).peer q).state = .present := by
    rw [peer]
    split
    · next same => exact present (same ▸ hq)
    · exact hq
  have reached (q : Station) (hq : s.homeUsable q) : (s.setPeer p r).homeUsable q := by
    rcases hq with own | usableBefore
    · exact .inl own
    · right
      rw [peer]
      split
      · next same =>
        subst same
        cases hs : (s.peer p).state with
        | unknown => rcases usable hs with u | u <;> simp [u]
        | present => simp [present hs]
        | absent => simp [hs] at usableBefore
        | mismatched => simp [hs] at usableBefore
      · exact usableBefore
  refine { h with attempt := ?_, flags := ?_, slots := ?_, requests := ?_, responses := ?_ }
  · intro a d q ha hk hi
    obtain ⟨other, before, online⟩ := h.attempt a d q ha hk hi
    exact ⟨other, stays d before, online⟩
  · intro q other gone
    rw [peer] at gone ⊢
    split at gone
    · next same =>
      rw [if_pos same]
      exact flags (same ▸ other) gone
    · next differs =>
      rw [if_neg differs]
      exact h.flags q other gone
  · exact fun t a ha isOpen => reached _ (h.slots t a ha isOpen)
  · exact fun e he => reached _ (h.requests e he)
  · intro e he
    obtain ⟨other, before⟩ := h.responses e he
    exact ⟨other, stays _ before⟩

/-- A record that keeps the peer's state, and its flags unless the peer is PRESENT, is no change of the link. -/
theorem setPeer_sameState (h : s.LinkLawful) (p : Station) (r : PeerRecord) (state : r.state = (s.peer p).state)
    (flags : (s.peer p).state ≠ .present → r.syncOut = (s.peer p).syncOut ∧ r.syncIn = (s.peer p).syncIn) :
    (s.setPeer p r).LinkLawful := by
  refine h.setPeer p r state.trans (fun unknown => .inl (state.trans unknown)) fun other gone => ?_
  have gone : (s.peer p).state ≠ .present := state ▸ gone
  obtain ⟨out, inn⟩ := flags gone
  obtain ⟨outSet, inSet⟩ := h.flags p other gone
  exact ⟨out.trans outSet, inn.trans inSet⟩

/-! ## Purges -/

theorem purge (h : s.LinkLawful) (p : Station) (peer : p ≠ s.own) (c : PurgeCause) : (s.purge p c).LinkLawful := by
  have own := s.purge_own p c
  have other (q : Station) (hq : q ≠ p) : (s.purge p c).peer q = s.peer q := by
    rw [peer_purge, if_neg (Ne.symm hq)]
  have usable (q : Station) (hq : q ≠ p) (before : s.homeUsable q) : (s.purge p c).homeUsable q := by
    simpa only [homeUsable, own, other q hq] using before
  refine ⟨⟨?_, ?_, ?_, ?_, ?_, ?_⟩, ?_⟩
  · intro a d q ha hk hi
    rw [purge_bus] at ha
    obtain ⟨a₀, h₀, rfl⟩ := Option.map_eq_some_iff.mp ha
    obtain ⟨same, notTo⟩ := Attempt.abandonTo_counts hi
    rw [same] at hk hi
    have apart : d ≠ p := by
      rintro rfl
      exact notTo q hk
    rw [own, other d apart, purge_ctl]
    exact h.attempt a₀ d q h₀ hk hi
  · intro q notOwn gone
    rw [peer_purge] at gone ⊢
    split
    · exact ⟨rfl, rfl⟩
    · next differs =>
      rw [if_neg differs] at gone
      exact h.flags q (own ▸ notOwn) gone
  · intro t r hr isOpen
    rw [slot_purge] at hr
    split at hr
    · next r₀ h₀ =>
      split at hr
      · simp [SlotRecord.isOpen_of_lose hr] at isOpen
      · next apart =>
        obtain rfl := Option.some.inj hr
        exact usable _ apart (h.slots t _ h₀ isOpen)
    · cases hr
  · intro e he
    rw [purge_dlv] at he
    obtain ⟨old, apart⟩ := List.mem_filter.mp he
    exact usable _ (by simpa using apart) (h.requests e old)
  · intro e he
    rw [purge_dlv] at he
    obtain ⟨old, apart⟩ := List.mem_filter.mp he
    simpa only [presentPeer, own, other _ (by simpa using apart)] using h.responses e old
  · rw [purge_home, own]
    exact h.home.purge _ p peer
  · rw [purge_ctl]
    exact h.working

end LinkLawful
end State
end Sys2Proof.Machine

/-! # The links, operation by operation (R33 to R36, R118, R137, R139, R141, R142)

Each operation of the model keeps `State.LinkLawful`; the ones of the request controller by `State.Serves`. The last
theorem settles O60. -/

namespace Sys2Proof.Machine

/-- No outcome of an addressed attempt counts. -/
def BusAccess.NoneCounts (b : BusAccess) : Prop :=
  ∀ a d q, b.attempt = some a → a.kind = .addressed d q → a.ignored = true

namespace State

/-- A slot opens for a home that can be reached (R174, R185). -/
theorem homeUsable_of_admitAcquire {s : State} {l : LockId} {t : Tag} {home : Station}
    (admitted : s.admitAcquire l = .ok (t, home)) : s.homeUsable home := by
  unfold admitAcquire at admitted
  split at admitted
  · cases admitted
  · next h _ =>
    split at admitted
    · cases admitted
    · split at admitted
      · cases admitted
      · next usable =>
        split at admitted <;> cases admitted
        tauto

/-- In JOINING a frame changes only the roster and the duplicate-number-seen flag (R92, R95). -/
theorem fromSource_bus_of_joining {s : State} (joining : s.ctl.state = .joining) (f : Frame) :
    (s.fromSource f).bus = s.bus := by
  unfold fromSource
  split
  · rfl
  · unfold handOn
    simp only [restartSilence_ctl, joining]
    split <;> simp [presenceInJoining, recordEpoch, setPeerState]

/-- What a step of the home leaves of the home controller (R21, R35). -/
theorem carryOut_home (s : State) (inbound : List InboundRequest) (x : HomeStep) :
    (s.carryOut inbound x).home = { s.home with inbound := inbound, table := x.table } := by
  simp [carryOut]

/-- The home controller changes beside the request controller's work. -/
theorem Serves.withHome {s x : State} (served : s.Serves x) (c : HomeController) :
    (s.withHome c).Serves (x.withHome c) :=
  { served with home := rfl }

/-- Outside ONLINE no outcome of an addressed attempt counts (R118). -/
theorem LinkFits.noneCounts {s : State} (h : s.LinkFits) (off : s.ctl.state ≠ .online) : s.bus.NoneCounts := by
  intro a d q ha hk
  by_contra counts
  exact off (h.attempt a d q ha hk (by simpa using counts)).2.2

/-- Outside ONLINE the links fit when the flags are set and no outcome counts. -/
theorem LinkFits.of_off {x : State} (life : x.LifeLawful) (off : x.ctl.state ≠ .online) (idle : x.bus.NoneCounts)
    (flags : ∀ p, p ≠ x.own → (x.peer p).state ≠ .present → (x.peer p).syncOut = true ∧ (x.peer p).syncIn = true) :
    x.LinkFits where
  attempt a d q ha hk counts := by simp [idle a d q ha hk] at counts
  flags := flags
  slots t r hr isOpen := by simp [life.closed off t r hr] at isOpen
  requests e he := by simp [life.requests off] at he
  responses e he := by simp [life.responses off] at he
  home := by
    rw [life.home off]
    exact .empty _

namespace LinkLawful

variable {s x : State}

theorem of_off (life : x.LifeLawful) (off : x.ctl.state ≠ .online) (working : ¬ x.ctl.resetAsserted = true)
    (idle : x.bus.NoneCounts)
    (flags : ∀ p, p ≠ x.own → (x.peer p).state ≠ .present → (x.peer p).syncOut = true ∧ (x.peer p).syncIn = true) :
    x.LinkLawful :=
  ⟨.of_off life off idle flags, working⟩

/-- The records of the peers change, but not the states. -/
theorem withRoster (h : s.LinkLawful) (r : PeerRoster)
    (peers : ∀ p, p ≠ s.own → (r.peers.get p).state = (s.peer p).state ∧
      ((s.peer p).state ≠ .present → (r.peers.get p).syncOut = true ∧ (r.peers.get p).syncIn = true)) :
    (s.withRoster r).LinkLawful := by
  have state (p : Station) (other : p ≠ s.own) : ((s.withRoster r).peer p).state = (s.peer p).state :=
    (peers p other).1
  have usable (d : Station) (hd : s.homeUsable d) : (s.withRoster r).homeUsable d := by
    by_cases own : d = s.own
    · exact .inl own
    · exact .inr (by rw [state d own]; exact hd.resolve_left own)
  refine { h with attempt := ?_, flags := ?_, slots := ?_, requests := ?_, responses := ?_ }
  · intro a d q ha hk hi
    obtain ⟨other, present, online⟩ := h.attempt a d q ha hk hi
    exact ⟨other, (state d other).trans present, online⟩
  · exact fun p other gone => (peers p other).2 fun present => gone ((state p other).trans present)
  · exact fun t a ha isOpen => usable _ (h.slots t a ha isOpen)
  · exact fun e he => usable _ (h.requests e he)
  · exact fun e he => ⟨(h.responses e he).1, (state _ (h.responses e he).1).trans (h.responses e he).2⟩

/-- The station's own timers and FRESH do not concern the links. -/
theorem withRoster_same (h : s.LinkLawful) (r : PeerRoster) (peers : r.peers = s.roster.peers) :
    (s.withRoster r).LinkLawful :=
  h.withRoster r fun p other => by
    rw [peers]
    exact ⟨rfl, h.flags p other⟩

/-- The station moves to another state while no outcome counts. -/
theorem moves (h : s.LinkLawful) (c : StationController) (number : c.number = s.ctl.number)
    (working : ¬ c.resetAsserted = true) (idle : s.bus.NoneCounts) : (s.withCtl c).LinkLawful := by
  have kept := h.withCtl { c with state := s.ctl.state, resetAsserted := s.ctl.resetAsserted } rfl number rfl
  exact { kept with
    attempt := fun a d q ha hk counts => by simp [idle a d q ha hk] at counts
    working := working }

/-! ## The life cycle -/

theorem submitStart (h : s.LinkLawful) (life : s.LifeLawful) : s.submitStart.LinkLawful := by
  unfold State.submitStart
  split
  · exact h.of_serves (.setResult _)
  · next config =>
    split
    · have off : s.ctl.state ≠ .online := by simp [not_not.mp config]
      refine of_off (life.startSucceeds (not_not.mp config) h.working) (by simp [State.startSucceeds]) ?_ ?_ ?_
      · simpa [State.startSucceeds] using h.working
      · exact h.noneCounts off
      · intro p other _
        have other : p ≠ s.own := other
        simp [State.startSucceeds, State.peer, other, PeerRecord.unheard]
    all_goals exact (h.withCtl _ (by rfl) (by rfl) (by rfl)).of_serves (.setResult _)

/-- Entry to ONLINE sets every peer's flags (R135, R161), whatever the listen made of them. -/
theorem enterOnline (life : s.LifeLawful) (joining : s.ctl.state = .joining) (idle : s.bus.NoneCounts) :
    s.enterOnline.LinkLawful := by
  have off : s.ctl.state ≠ .online := by simp [joining]
  have working := life.not_reset (by simp [joining])
  have rostered : (s.withRoster s.enterOnline.roster).LinkLawful :=
    of_off (life.withRoster _) off working idle fun p other _ => by
      have other : p ≠ s.own := other
      simp [State.enterOnline, State.peer, other]
  exact (rostered.moves s.enterOnline.ctl rfl working idle).withDlv_same _ rfl rfl

theorem ignoreAttempt_noneCounts (s : State) : s.ignoreAttempt.bus.NoneCounts := by
  intro a d q ha _
  obtain ⟨_, _, rfl⟩ := Option.map_eq_some_iff.mp ha
  rfl

theorem submitLeave (h : s.LinkLawful) (life : s.LifeLawful) : s.submitLeave.LinkLawful := by
  unfold State.submitLeave
  split
  · next online =>
    refine of_serves (of_off (life.enterLeaving online) ?_ ?_ ?_ ?_) (.setResult _)
    · simp [State.enterLeaving]
    · simpa [State.enterLeaving] using h.working
    · have bus : s.enterLeaving.bus = s.ignoreAttempt.bus := by
        simp [State.enterLeaving, State.leaveDelivery, ignoreAttempt]
      exact bus ▸ ignoreAttempt_noneCounts s
    · have own : s.enterLeaving.own = s.own := by simp [State.enterLeaving, State.own]
      have peer (p : Station) : s.enterLeaving.peer p = s.peer p := by simp [State.enterLeaving, State.peer]
      intro p
      rw [own, peer]
      exact h.flags p
  · exact h.of_serves (.setResult _)

/-- LEAVING ends (R163). -/
theorem endLeaving (h : s.LinkLawful) : s.endLeaving.LinkLawful := by
  have idle := ignoreAttempt_noneCounts s
  have ignored : s.ignoreAttempt.LinkLawful :=
    h.withBus _ fun a d q ha hk counts => by simp [idle a d q ha hk] at counts
  have moved := ignored.moves s.endLeaving.ctl rfl h.working idle
  exact (moved.withDlv_same { s.dlv with leaveDue := false } rfl rfl).withRoster
    s.endLeaving.roster fun p other => by
      have other : p ≠ s.own := other
      have peer : s.endLeaving.peer p = { s.peer p with silenceTimer := none } :=
        (peer_everyPeer _ _ p).trans (if_neg other)
      rw [show s.endLeaving.roster.peers.get p = _ from peer]
      exact ⟨rfl, h.flags p other⟩

/-! ## The bus access unit and the delivery unit -/

/-- A frame that may be sent goes to a PRESENT peer (R118). -/
theorem presentPeer_of_mayStart {q : OutQueue} {d : Station} (may : s.mayStart q d = true) : s.presentPeer d := by
  obtain ⟨other, present, _⟩ := (s.mayStart_iff q d).mp may
  exact ⟨other, present⟩

theorem presentPeer_of_eligibleResponse {e : OutResponse} (eligible : s.eligibleResponse = some e) :
    s.presentPeer e.destination :=
  presentPeer_of_mayStart (List.find?_some (p := fun x : OutResponse => s.mayStart _ x.destination) eligible)

theorem presentPeer_of_eligibleRequest {e : OutRequest} (eligible : s.eligibleRequest = some e) :
    s.presentPeer e.destination :=
  presentPeer_of_mayStart (List.find?_some (p := fun x : OutRequest => s.mayStart _ x.destination) eligible)

/-- The attempt of a frame to a PRESENT peer begins in ONLINE (R118). -/
theorem attemptAddressed (h : s.LinkLawful) (q : OutQueue) (d : Station) (b : FrameBody) (present : s.presentPeer d)
    (online : s.ctl.state = .online) : (s.attemptAddressed q d b).LinkLawful :=
  (h.setSend _ _).withBus _ fun a d' q' ha hk _ => by
    obtain rfl := Option.some.inj ha
    cases hk
    exact ⟨present, online⟩

theorem chooseAndSend (h : s.LinkLawful) : s.chooseAndSend.LinkLawful := by
  unfold State.chooseAndSend
  have broadcast (x : State) (hx : x.LinkLawful) (k : AttemptKind) (f : Frame) (other : ∀ d q, k ≠ .addressed d q) :
      (x.beginAttempt k f).LinkLawful :=
    hx.withBus _ fun a d q ha hk _ => by
      obtain rfl := Option.some.inj ha
      exact absurd hk (other d q)
  split
  · next online =>
    split
    · exact broadcast _ (h.withDlv_same _ (by rfl) (by rfl)) _ _ (by simp)
    · split
      · next e he => exact h.attemptAddressed _ _ _ (presentPeer_of_eligibleResponse he) online
      · split
        · next e he => exact h.attemptAddressed _ _ _ (presentPeer_of_eligibleRequest he) online
        · exact h
  · split
    · exact broadcast _ (h.withDlv_same _ (by rfl) (by rfl)) _ _ (by simp)
    · exact h
  · exact h
  · exact h

theorem acceptStarted (h : s.LinkLawful) (d : Station) (f : StartedFrame) (present : (s.peer d).state = .present) :
    (s.acceptStarted d f).LinkLawful := by
  unfold State.acceptStarted
  exact .ite ((h.setSend _ _).setPeer_sameState _ _ (by rfl) fun gone => absurd present gone) (h.setSend _ _)

theorem frameAccepted (h : s.LinkLawful) (d : Station) (q : OutQueue) (f : StartedFrame)
    (present : (s.peer d).state = .present) : (s.frameAccepted d q f).LinkLawful := by
  have accepted := h.acceptStarted d f present
  unfold State.frameAccepted
  dsimp only
  split
  · exact accepted.withDlv _ (fun _ he => he) fun _ he => List.mem_of_mem_eraseP he
  · split
    · exact accepted
    · exact accepted.of_serves ((Serves.withDlv _ (by rfl) fun _ he => List.mem_of_mem_eraseP he).trans
        (.requestDeparted _ _))

theorem frameUnanswered (h : s.LinkLawful) (d : Station) (peer : d ≠ s.own) : (s.frameUnanswered d).LinkLawful :=
  .ite ((h.setSend _ _).purge d peer _) (h.setSend _ _)

theorem addressedOutcome (h : s.LinkLawful) (d : Station) (q : OutQueue) (f : StartedFrame) (o : AttemptOutcome)
    (present : s.presentPeer d) : (s.addressedOutcome d q f o).LinkLawful := by
  obtain ⟨peer, present⟩ := present
  unfold State.addressedOutcome
  split
  · exact h.frameAccepted d q f present
  · exact h.of_serves (.frameNotTaken d q .busy)
  · exact h.of_serves (.frameNotTaken d q .unheard)
  · exact h.purge d peer .disowned
  · exact h.frameUnanswered d peer
  · exact h.frameUnanswered d peer
  · exact h

/-- The outcome of an attempt is applied (R120 to R125). -/
theorem applyOutcome (h : s.LinkLawful) (a : Attempt)
    (addressed : ∀ d q, a.kind = .addressed d q → a.ignored = false → s.presentPeer d) :
    (s.applyOutcome a).LinkLawful := by
  unfold State.applyOutcome
  split
  · exact h
  · next counts =>
    split
    · exact .ite (h.of_serves .setPresenceDue) (h.withRoster_same _ (by rfl))
    · exact .ite (h.withDlv_same _ (by rfl) (by rfl)) h.endLeaving
    · next d q kind =>
      split
      · exact h.addressedOutcome _ _ _ _ (addressed d q kind (by simpa using counts))
      · exact h

theorem endAttempt (h : s.LinkLawful) : s.endAttempt.LinkLawful := by
  unfold State.endAttempt
  split
  · exact h
  · next a ha =>
    refine applyOutcome (h.withBus { s.bus with attempt := none } fun _ _ _ none => by cases none) a ?_
    intro d q kind counts
    obtain ⟨other, present, _⟩ := h.attempt a d q ha kind counts
    exact ⟨other, present⟩

theorem closeWindow (h : s.LinkLawful) : s.closeWindow.LinkLawful :=
  h.endAttempt.withBus_same _ (BusAccess.beginCycle_attempt _ _)

/-- The attempt in flight stays in flight, its kind and whether it counts being the same. -/
theorem withAttempt (h : s.LinkLawful) (a : Attempt) (ha : s.bus.attempt = some a) (b : BusAccess) (a' : Attempt)
    (attempt : b.attempt = some a') (kind : a'.kind = a.kind) (counts : a'.ignored = a.ignored) :
    (s.withBus b).LinkLawful :=
  h.withBus b fun x d q hx hk hi => by
    obtain rfl := Option.some.inj (attempt.symm.trans hx)
    obtain ⟨other, present, online⟩ := h.attempt a d q ha (kind.symm.trans hk) (counts.symm.trans hi)
    exact ⟨⟨other, present⟩, online⟩

theorem ackMismatch (h : s.LinkLawful) (bit : Nat) : (s.ackMismatch bit).LinkLawful := by
  unfold State.ackMismatch
  split
  · exact .ite (h.withBus_same _ (by rfl)) h
  · exact h

theorem readBack (h : s.LinkLawful) (bit : Nat) : (s.readBack bit).LinkLawful := by
  unfold State.readBack
  split
  · next a ha =>
    refine .ite ?_ (h.ackMismatch bit)
    exact .ite (h.withAttempt a ha _ _ (by rfl) (by rfl) (by rfl)).endAttempt
      (h.withAttempt a ha _ _ (by rfl) (by rfl) (by rfl))
  · exact h.ackMismatch bit

theorem ownFrameEnds (h : s.LinkLawful) : s.ownFrameEnds.LinkLawful := by
  unfold State.ownFrameEnds
  split
  · next a ha => exact .ite (h.withAttempt a ha _ _ (by rfl) (by rfl) (by rfl)) h
  · exact h

theorem beginAck (h : s.LinkLawful) : s.beginAck.LinkLawful := by
  unfold State.beginAck
  split
  · exact h
  · exact .ite (h.withBus_same _ (by rfl)) h

/-! ## The home steps -/

/-- Responses are routed to PRESENT peers (R22), whatever the home controller is at the end. -/
theorem routeResponses {c : HomeController} (h : (s.withHome c).LinkLawful) (es : List OutResponse) :
    ((s.routeResponses es).withHome c).LinkLawful := by
  induction es generalizing s with
  | nil => exact h
  | cons e es ih =>
    refine ih (s := s.routeResponse e) ?_
    unfold State.routeResponse
    split
    · exact h.of_serves ((Serves.applyResponse _ _).withHome c)
    · next other =>
      split
      · next deliverable =>
        have present : (s.peer e.destination).state = .present := by
          simp only [responseDeliverable, Bool.and_eq_true, decide_eq_true_eq] at deliverable
          exact deliverable.1.1
        exact { h with
          responses := fun x hx => by
            rcases List.mem_append.mp hx with old | new
            · exact h.responses x old
            · obtain rfl := List.mem_singleton.mp new
              exact ⟨other, present⟩ }
      · exact h

/-- A step of the home is carried out and leaves the home controller as given (R21, R22). -/
theorem carryOut (h : s.LinkLawful) (inbound : List InboundRequest) (x : HomeStep) (c : HomeController)
    (home : c.WalkLawful s.own) : ((s.carryOut inbound x).withHome c).LinkLawful :=
  routeResponses (s := s.withHome { s.home with inbound := inbound, table := x.table }) (h.withHome c home) x.responses

/-- A service step is taken with no walk and no purge pending (R21). -/
theorem serves_carryOut (h : s.LinkLawful) (allowed : ¬ s.serviceAllowed = false) (inbound : List InboundRequest)
    (x : HomeStep) : (s.carryOut inbound x).LinkLawful := by
  simp only [serviceAllowed, Bool.not_eq_false, Bool.and_eq_true, decide_eq_true_eq] at allowed
  obtain ⟨⟨_, walk, pending⟩, _⟩ := allowed
  refine h.carryOut inbound x (s.carryOut inbound x).home ?_
  rw [carryOut_home]
  exact .of_idle walk pending

theorem serveAcquire (h : s.LinkLawful) : s.serveAcquire.LinkLawful := by
  unfold State.serveAcquire
  split
  · exact h
  · next allowed =>
    split
    · exact h.serves_carryOut allowed _ _
    · exact h

theorem serveRelease (h : s.LinkLawful) : s.serveRelease.LinkLawful := by
  unfold State.serveRelease
  split
  · exact h
  · next allowed =>
    split
    · exact h.serves_carryOut allowed _ _
    · exact h

theorem serveCancel (h : s.LinkLawful) : s.serveCancel.LinkLawful := by
  unfold State.serveCancel
  split
  · exact h
  · next allowed =>
    split
    · exact h.serves_carryOut allowed _ _
    · exact h

/-- A walk step leaves nothing of the walked station behind it (R35, R36). -/
theorem stepWalk (h : s.LinkLawful) (law : tableLawful s.home.table) : s.stepWalk.LinkLawful := by
  unfold State.stepWalk
  split
  · exact h
  · split
    · exact h
    · next w walk =>
      split
      · exact h.withHome _ h.home.toWalkSafe.settleWalk
      · next e found =>
        refine h.carryOut _ _ _ (HomeController.WalkSafe.settleWalk ?_)
        rw [carryOut_home]
        exact {
          ascending := h.home.ascending
          notOwn := h.home.notOwn
          station := by
            rintro _ ⟨⟩
            exact h.home.station w walk
          behind := by
            rintro _ ⟨⟩
            exact visitStep_behind law found (h.home.behind w walk) }

/-- Requests that arrive leave the walk (R131). -/
theorem withInbound (h : s.LinkLawful) (inbound : List InboundRequest) :
    (s.withHome { s.home with inbound := inbound }).LinkLawful :=
  h.withHome _ { h.home with }

theorem moveLoopback (h : s.LinkLawful) : s.moveLoopback.LinkLawful := by
  unfold State.moveLoopback
  split
  · exact h
  · split
    · exact h
    · exact (h.withInbound _).of_serves ((Serves.withDlv _ (by rfl) fun _ he => List.mem_of_mem_eraseP he).trans
        (.requestDeparted _ _))

/-! ## Receipts -/

theorem dueAck (h : s.LinkLawful) (p : Station) (f : Frame) (r : AckResult) : (s.dueAck p f r).LinkLawful :=
  h.withBus_same _ rfl

theorem takeFrame (h : s.LinkLawful) (p : Station) (f : Frame) (present : (s.peer p).state = .present) :
    (s.takeFrame p f).LinkLawful := by
  have received := h.setReceive p (some { sequence := f.sequence, sync := f.sync })
  have answered (x : State) (hx : x.LinkLawful) : ((x.dueAck p f .accept).dispatch p f.body).LinkLawful := by
    have due := hx.dueAck p f .accept
    unfold State.dispatch
    split
    · exact due.withInbound _
    · exact due.of_serves (.applyResponse _ _)
    all_goals exact due
  unfold State.takeFrame
  exact answered _ (.ite (received.setPeer_sameState _ _ (by rfl) fun gone => absurd present gone) received)

theorem admitFrame (h : s.LinkLawful) (p : Station) (f : Frame) (present : (s.peer p).state = .present) :
    (s.admitFrame p f).LinkLawful := by
  unfold State.admitFrame
  split
  · exact .ite (h.dueAck p f .busy) (h.takeFrame p f present)
  · exact h.takeFrame p f present
  all_goals exact h

theorem receiveChecks (h : s.LinkLawful) (p : Station) (f : Frame) (peer : p ≠ s.own) :
    (s.receiveChecks p f).LinkLawful := by
  unfold State.receiveChecks
  split
  · exact h.dueAck p f .unheard
  · exact h.dueAck p f .reject
  · exact h.dueAck p f .reject
  · next present =>
    refine .ite (h.dueAck p f .reject) <| .ite (h.dueAck p f .accept) <| .ite ?_ (h.admitFrame p f present)
    refine (h.purge p peer .disowned).admitFrame p f ?_
    rw [peer_purge, if_pos rfl]
    rfl

theorem answerWhileLeaving (h : s.LinkLawful) (p : Station) (f : Frame) : (s.answerWhileLeaving p f).LinkLawful := by
  unfold State.answerWhileLeaving
  split
  · exact h.dueAck p f .busy
  · exact h.dueAck p f .accept
  all_goals exact h

theorem recordEpoch (h : s.LinkLawful) (p : Station) (e : Word) : (s.recordEpoch p e).LinkLawful :=
  h.setPeer_sameState _ _ (by rfl) fun _ => ⟨rfl, rfl⟩

theorem syncWaitNotice (h : s.LinkLawful) (p : Station) (w : Word) (peer : p ≠ s.own) :
    (s.syncWaitNotice p w).LinkLawful :=
  .ite (h.purge p peer _) h

theorem presenceHeard (h : s.LinkLawful) (p : Station) (fresh : Bool) (e d w : Word) (peer : p ≠ s.own) :
    (s.presenceHeard p fresh e d w).LinkLawful := by
  have found : (((s.setPeerState p .present).recordEpoch p e).syncWaitNotice p w).LinkLawful :=
    syncWaitNotice (recordEpoch
      (h.setPeer p _ (fun _ => rfl) (fun _ => .inr rfl) fun _ gone => absurd rfl gone) p e) p w peer
  unfold State.presenceHeard
  split
  · exact .ite (h.recordEpoch p e) ((h.purge p peer .mismatch).recordEpoch p e)
  · split
    · exact found
    · exact found
    · exact found
    · refine .ite (syncWaitNotice ((h.purge p peer .restarted).recordEpoch p e) p w ?_) (h.syncWaitNotice p w peer)
      exact fun same => peer (same.trans (purge_own s p .restarted))

/-- A MISMATCHED peer becomes ABSENT (R149, R150). -/
theorem setPeer_absent (h : s.LinkLawful) (p : Station) (r : PeerRecord) (mismatched : (s.peer p).state = .mismatched)
    (out : r.syncOut = (s.peer p).syncOut) (inn : r.syncIn = (s.peer p).syncIn) : (s.setPeer p r).LinkLawful := by
  refine h.setPeer p r (fun present => ?_) (fun unknown => ?_) fun other _ => ?_
  · simp [mismatched] at present
  · simp [mismatched] at unknown
  · rw [out, inn]
    exact h.flags p other (by simp [mismatched])

theorem leaveHeard (h : s.LinkLawful) (p : Station) (peer : p ≠ s.own) : (s.leaveHeard p).LinkLawful := by
  unfold State.leaveHeard
  split
  · exact h.purge p peer .left
  · exact h.purge p peer .left
  · next mismatched => exact h.setPeer_absent p _ mismatched rfl rfl
  · exact h

theorem ackReceived (h : s.LinkLawful) (f : Frame) (n : Byte) (r : AckResult) : (s.ackReceived f n r).LinkLawful := by
  unfold State.ackReceived
  split
  · exact h
  · next a ha => exact .ite (h.withAttempt a ha _ _ (by rfl) (by rfl) (by rfl)) h

/-- A valid frame of a peer is handed on, the listen of JOINING apart (R95). -/
theorem handOn (h : s.LinkLawful) (f : Frame) (peer : f.source ≠ s.own) (listening : s.ctl.state ≠ .joining) :
    (s.handOn f).LinkLawful := by
  have checked := LinkLawful.ite (c := f.addressee = some s.own) (h.receiveChecks f.source f peer) h
  have leaving := LinkLawful.ite (c := f.addressee = some s.own) (h.answerWhileLeaving f.source f) h
  unfold State.handOn
  dsimp only
  split
  · exact h
  · next joining => exact absurd joining listening
  · split
    · exact checked
    · exact checked
    · exact h.presenceHeard _ _ _ _ _ peer
    · exact h.leaveHeard _ peer
    · exact h.ackReceived f _ _
  · split
    · exact leaving
    · exact leaving
    · exact h.presenceHeard _ _ _ _ _ peer
    · exact h.leaveHeard _ peer
    · exact h.ackReceived f _ _

theorem fromSource (h : s.LinkLawful) (f : Frame) (listening : s.ctl.state ≠ .joining) :
    (s.fromSource f).LinkLawful := by
  unfold State.fromSource
  split
  · exact h.withCtl _ (by rfl) (by rfl) (by rfl)
  · next peer =>
    have restarted : (s.restartSilence f.source).LinkLawful :=
      .ite (h.setPeer_sameState _ _ (by rfl) fun _ => ⟨rfl, rfl⟩) h
    refine restarted.handOn f ?_ ?_
    · rwa [State.own, restartSilence_ctl]
    · rwa [restartSilence_ctl]

/-- A valid frame; in JOINING one that is not arbitrated is an ACK or carries a request or response, and does nothing
(R95, R160). -/
theorem validFrame (h : s.LinkLawful) (life : s.LifeLawful) (f : Frame) : (s.validFrame f).LinkLawful := by
  have ended : (s.arbitratedEnds f).LinkLawful := h.withBus_same _ rfl
  unfold State.validFrame
  by_cases joining : s.ctl.state = .joining
  · split
    · have heard : ((s.arbitratedEnds f).fromSource f).LifeLawful :=
        LifeLawful.fromSource (life.withBus_same _ (by rfl)) f
      have still : (s.arbitratedEnds f).ctl.state = .joining := by rw [arbitratedEnds_ctl, joining]
      refine enterOnline heard ((fromSource_state _ f).trans still) ?_
      rw [fromSource_bus_of_joining still]
      exact h.noneCounts (by simp [joining])
    · next ack =>
      have silent : s.handOn f = s := by
        unfold State.handOn
        simp only [joining]
        split <;> simp_all [FrameBody.arbitrated]
      unfold State.fromSource
      have restarted : s.restartSilence f.source = s := by simp [State.restartSilence, joining]
      rw [restarted, silent]
      exact .ite (h.withCtl _ (by rfl) (by rfl) (by rfl)) h
  · rw [if_neg joining]
    exact .ite (ended.fromSource f (by rwa [arbitratedEnds_ctl])) (h.fromSource f joining)

theorem receive (h : s.LinkLawful) (life : s.LifeLawful) (rx : Reception) : (s.receive rx).LinkLawful := by
  have same := BusAccess.noteTransmission_attempt s.bus
  have received : (s.withBus s.bus.transmissionReceived).LinkLawful := h.withBus_same _ same
  unfold State.receive
  split
  · exact h
  · dsimp only
    split
    · exact .ite received (received.withBus_same _ (by rfl))
    · exact received.validFrame (life.withBus_same _ same) _

/-! ## The port and the timers -/

/-- A slot opens for a home that can be reached, its ACQUIRE frame going there (R47, R48). -/
theorem openSlot (h : s.LinkLawful) (t : Tag) (l : LockId) (m : LockMode) (w : WaitKind) (o : Origin) (home : Station)
    (timer : Option Nat) (usable : s.homeUsable home) : (s.openSlot t l m w o home timer).LinkLawful :=
  { h with
    slots := fun u r hr isOpen => by
      have hr : (s.setSlot t _).slot u = some r := hr
      by_cases same : t = u
      · subst same
        rw [slot_setSlot] at hr
        obtain rfl := Option.some.inj hr
        exact usable
      · rw [slot_setSlot_of_ne s t u _ same] at hr
        exact h.slots u r hr isOpen
    requests := fun e he => by
      rcases List.mem_append.mp he with old | new
      · exact h.requests e old
      · obtain rfl := List.mem_singleton.mp new
        exact usable }

theorem submitAcquire (h : s.LinkLawful) : s.submitAcquire.LinkLawful := by
  unfold State.submitAcquire
  split
  · exact h.setResult _
  · split
    · split
      · exact h.setResult _
      · next admitted => exact (h.openSlot _ _ _ _ _ _ _ (homeUsable_of_admitAcquire admitted)).setResult _
    · exact h.setResult _

theorem submit (h : s.LinkLawful) (life : s.LifeLawful) (idle : s.port.window = .idle) (v : Word) :
    (s.submit v).LinkLawful := by
  unfold State.submit
  split
  · exact h.submitAcquire
  · exact h.of_serves .submitRelease
  · exact h.of_serves (.submitCancel (readStalledFor_of_idle idle))
  · exact h.submitStart life
  · exact h.submitLeave life
  · exact h

theorem acquireByWindow (h : s.LinkLawful) (m : LockMode) (l : LockId) : (s.acquireByWindow m l).LinkLawful := by
  unfold State.acquireByWindow
  split
  · exact h.withPort _
  · split
    · exact h.withPort _
    · next admitted => exact (h.openSlot _ _ _ _ _ _ _ (homeUsable_of_admitAcquire admitted)).withPort _

theorem withdrawStrobe (h : s.LinkLawful) : s.withdrawStrobe.LinkLawful := by
  unfold State.withdrawStrobe
  split
  · exact h.withPort _
  · exact (h.withPort _).of_serves (.cancelSlot _ _ fun _ _ _ => rfl)

theorem writeConfig (h : s.LinkLawful) (f : ConfigBlock → ConfigBlock) : (s.writeConfig f).LinkLawful :=
  .ite (h.withCtl _ (by rfl) (by rfl) (by rfl)) h

/-- A port write, at whatever address (R168). -/
theorem writeWord (h : s.LinkLawful) (life : s.LifeLawful) (idle : s.port.window = .idle) (a : PortAddr) (v : Word) :
    (s.writeWord a v).LinkLawful :=
  .ite (h.withPort _) <| .ite (h.writeConfig _) <| .ite (h.writeConfig _) <| .ite (h.writeConfig _) <|
    .ite (h.writeConfig _) <| .ite (h.writeConfig _) <| .ite (h.writeConfig _) <| .ite (h.withPort _) <|
    .ite (h.submit life idle v) <| .ite (h.of_serves .popRecord) <| .ite (h.withPort _) <|
    .ite (h.of_serves (.releaseByWindow _)) h

theorem silenceTimeout (h : s.LinkLawful) (p : Station) : (s.silenceTimeout p).LinkLawful := by
  unfold State.silenceTimeout onlyIf
  split
  · next runs =>
    have peer : p ≠ s.own := runs.1
    have stopped : (s.setPeer p { s.peer p with silenceTimer := none }).LinkLawful :=
      h.setPeer_sameState p _ rfl fun _ => ⟨rfl, rfl⟩
    dsimp only [State.peerSilent]
    split
    · exact stopped.purge p peer _
    · exact stopped.purge p peer _
    · next mismatched => exact stopped.setPeer_absent p _ mismatched rfl rfl
    · exact stopped
  · exact h

theorem listenTimeout (h : s.LinkLawful) (life : s.LifeLawful) : s.listenTimeout.LinkLawful := by
  unfold State.listenTimeout onlyIf
  split
  · next expires => exact enterOnline life expires.1 (h.noneCounts (by simp [expires.1]))
  · exact h

end LinkLawful

/-! ## Every command -/

/-- A command that a working station takes. -/
theorem peerInv_running {s : State} (h : PeerInv s) {f : State → State} (kept : s.LinkLawful → (f s).LinkLawful) :
    PeerInv (running s f) := by
  unfold Machine.running
  split
  · exact h
  · next working => exact (kept ⟨(s.peerInv_iff.mp h).1, by simpa using working⟩).peerInv

/-- A port cycle is taken with no read stalled (R167). -/
theorem peerInv_portCycle {s : State} (h : PeerInv s) (life : s.LifeLawful) {f : State → State}
    (kept : ∀ x : State, x.LinkLawful → x.LifeLawful → x.port.window = .idle → (f x).LinkLawful) :
    PeerInv (portCycle s f) := by
  unfold Machine.portCycle
  split
  · exact h
  · next free =>
    obtain ⟨working, idle⟩ := not_or.mp free
    have idle : s.port.window = .idle := by simpa using idle
    have links : s.LinkLawful := ⟨(s.peerInv_iff.mp h).1, by simpa using working⟩
    have taken : (s.withPort { s.port with dataOut := none }).LifeLawful :=
      { life with
        stall := fun _ _ stalled => absurd (idle.symm.trans stalled) nofun
        reset := fun asserted => absurd asserted links.working }
    exact (kept _ (links.withPort _) taken idle).peerInv

theorem peer_of_unheard {x : State} (unheard : x.roster = PeerRoster.unheard) (p : Station) :
    x.peer p = PeerRecord.unheard := by
  simp [peer, unheard, PeerRoster.unheard]

/-- A reset leaves no link (R164, R165). -/
theorem linkFits_of_unheard {x : State} (life : x.LifeLawful) (off : x.ctl.state ≠ .online)
    (idle : x.bus.NoneCounts) (unheard : x.roster = PeerRoster.unheard) : x.LinkFits :=
  .of_off life off idle fun p _ _ => by
    rw [peer_of_unheard unheard p]
    exact ⟨rfl, rfl⟩

theorem peerInv_portResetRelease {s : State} (h : PeerInv s) (life : s.LifeLawful) (straps : Straps) :
    PeerInv (onlyIf (s.ctl.resetAsserted = true) s (fun x => x.releasePortReset straps)) := by
  unfold onlyIf
  split
  · next asserted =>
    obtain ⟨fits, unheard⟩ := s.peerInv_iff.mp h
    have config := (life.reset asserted).1
    refine (peerInv_iff _).mpr ⟨?_, nofun⟩
    refine linkFits_of_unheard (life.releasePortReset straps asserted) ?_ ?_ (unheard asserted)
    · simp [releasePortReset, config]
    · exact fits.noneCounts (by simp [config])
  · exact h

/-- Every command keeps the invariant. -/
theorem peerInv_exec {s x : State} (h : PeerInv s) (life : s.LifeLawful) (table : tableLawful s.home.table) (i : Instr)
    (done : exec i s = .next x) : PeerInv x := by
  have reset (x : State) (life : x.LifeLawful) (off : x.ctl.state = .config) (bus : x.bus = BusAccess.startUp)
      (roster : x.roster = PeerRoster.unheard) : PeerInv x := by
    have idle : x.bus.NoneCounts := fun _ _ _ ha => by simp [bus, BusAccess.startUp] at ha
    exact x.peerInv_iff.mpr ⟨linkFits_of_unheard life (by simp [off]) idle roster, fun _ => roster⟩
  cases i <;> cases done
  case acquire => exact peerInv_portCycle h life fun _ hx _ _ => hx.submitAcquire
  case release => exact peerInv_portCycle h life fun _ hx _ _ => hx.of_serves .submitRelease
  case cancel =>
    exact peerInv_portCycle h life fun _ hx _ idle => hx.of_serves (.submitCancel (readStalledFor_of_idle idle))
  case start => exact peerInv_portCycle h life fun _ hx l _ => hx.submitStart l
  case leave => exact peerInv_portCycle h life fun _ hx l _ => hx.submitLeave l
  case pop => exact peerInv_portCycle h life fun _ hx _ _ => hx.of_serves .popRecord
  case interruptEnable => exact peerInv_portCycle h life fun _ hx _ _ => hx.withPort _
  case registerWrite a v => exact peerInv_portCycle h life fun _ hx l idle => hx.writeWord l idle a v
  case acquireWindowRead m l => exact peerInv_portCycle h life fun _ hx _ _ => hx.acquireByWindow m l
  case releaseWindowWrite l v =>
    exact peerInv_portCycle h life fun _ hx _ _ => hx.of_serves (.releaseByWindow l)
  case readStrobeWithdrawal => exact peerInv_running h fun links => links.withdrawStrobe
  case windowWaitLimitExpiry => exact peerInv_running h fun links => links.of_serves .windowLimit
  case powerOnReset straps => exact reset _ (.powerOn straps _) rfl rfl rfl
  case portReset => exact reset _ (.portResetValues s) rfl rfl rfl
  case portResetRelease straps => exact peerInv_portResetRelease h life straps
  case slotTimerExpiry t => exact peerInv_running h fun links => links.of_serves (life.serves_slotTimeout t)
  case acquireAtHome => exact peerInv_running h LinkLawful.serveAcquire
  case releaseAtHome => exact peerInv_running h LinkLawful.serveRelease
  case cancelAtHome => exact peerInv_running h LinkLawful.serveCancel
  case walkStep => exact peerInv_running h fun links => links.stepWalk table
  case loopbackMove => exact peerInv_running h LinkLawful.moveLoopback
  case sendingOpportunity =>
    exact peerInv_running h fun links => .ite (LinkLawful.chooseAndSend (links.withBus_same _ (by rfl))) links
  case readBackMismatch bit => exact peerInv_running h fun links => links.readBack bit
  case ownTransmissionEnd => exact peerInv_running h LinkLawful.ownFrameEnds
  case windowClose => exact peerInv_running h fun links => .ite links.closeWindow links
  case ackTransmission => exact peerInv_running h LinkLawful.beginAck
  case holdOffExpiry d => exact peerInv_running h fun links => .ite (links.setSend d _) links
  case startupLineIdle => exact peerInv_running h fun links => .ite (links.withBus_same _ (by rfl)) links
  case requestFrameReceipt ls => exact peerInv_running h fun links => links.receive life _
  case responseFrameReceipt ls => exact peerInv_running h fun links => links.receive life _
  case presenceReceipt ls => exact peerInv_running h fun links => links.receive life _
  case leaveFrameReceipt ls => exact peerInv_running h fun links => links.receive life _
  case ackReceipt ls => exact peerInv_running h fun links => links.receive life _
  case malformedFrame ls => exact peerInv_running h fun links => links.receive life _
  case presenceTimerExpiry =>
    exact peerInv_running h fun links =>
      .ite ((links.of_serves .setPresenceDue).withRoster_same _ (by simp)) links
  case silenceTimerExpiry p => exact peerInv_running h fun links => links.silenceTimeout p
  case listenTimerExpiry => exact peerInv_running h fun links => links.listenTimeout life
  case leavingTimerExpiry => exact peerInv_running h fun links => .ite links.endLeaving links
  case transmissionBegin =>
    exact peerInv_running h fun links =>
      .ite (links.withBus_same _ (BusAccess.noteTransmission_attempt s.bus)) links

end State

/-- Settles O60: the links with their parts named are kept by every command of a working station; under RST- nothing
moves, and its release finds the links empty. -/
theorem peerInvKept : Obligations.PeerInvKept := by
  intro s t home _ life _ links done
  have life := s.lifeLawful_iff.mpr life
  unfold Machine.step at done
  split at done
  · cases done
    exact links
  · next c rest _ =>
    refine State.peerInv_exec ?_ (life.withPending rest) home.1 c done
    obtain ⟨fits, reset⟩ := s.peerInv_iff.mp links
    exact (State.peerInv_iff _).mpr ⟨{ fits with }, reset⟩

end Sys2Proof.Machine

/-! # The home's steps (R14 to R36): O25, O27 to O30, O32, O33

An equation for each case of a step at the home, then the commands that carry the steps out. -/

namespace Sys2Proof.Machine

/-! ## An ACQUIRE that is granted -/

section AcquireStep

variable {own : Station} {map : List MapRange} {table : List HomeEntry} {l : LockId} {e : HomeEntry}
variable (p : Station) (t : Tag) (m : LockMode) (w : WaitKind)

/-- The first lock request for a lock without an entry makes one (R14, R24). -/
theorem acquireStep_newEntry (home : homeOf map l = some own) (new : findEntry table l = none)
    (room : table.length < Config.homeEntries) :
    acquireStep own map table p t l m w =
      { table := putEntry
          { lock := l, state := m.lockState, holders := [{ station := p, tag := t }], waiters := [],
            generation := 1#16, value := [] } table,
        responses := [{ destination := p, body := .grant l t m 1#16 [] }] } := by
  simp only [acquireStep, home, new, if_neg (Nat.not_le.mpr room), ne_eq, not_true_eq_false, if_false,
    HomeEntry.grantTo]

/-- A FREE lock is granted at the next generation (R16, R24). -/
theorem acquireStep_freeEntry (home : homeOf map l = some own) (found : findEntry table l = some e)
    (new : e.involves p = false) (free : e.state = .free) :
    acquireStep own map table p t l m w =
      { table := putEntry
          { e with
            state := m.lockState, holders := [{ station := p, tag := t }], generation := nextGeneration e.generation }
          table,
        responses := [{ destination := p, body := .grant l t m (nextGeneration e.generation) e.value }] } := by
  simp only [acquireStep, home, found, new, free, ne_eq, not_true_eq_false, if_false, if_true, Bool.false_eq_true,
    HomeEntry.grantTo, findEntry_lock table l e found]

/-- A SHARED request joins a SHARED hold that nobody awaits, at the current generation (R24). -/
theorem acquireStep_joins (home : homeOf map l = some own) (found : findEntry table l = some e)
    (new : e.involves p = false) (shared : e.state = .shared) (quiet : e.waiters = []) :
    acquireStep own map table p t l .shared w =
      { table := putEntry { e with holders := insertHolder { station := p, tag := t } e.holders } table,
        responses := [{ destination := p, body := .grant l t .shared e.generation e.value }] } := by
  simp [acquireStep, home, found, new, shared, quiet, HomeEntry.grantTo, findEntry_lock table l e found]

end AcquireStep

/-- Settles O25, case by case of the step that grants. -/
theorem acquireAtHomeGrants : Obligations.AcquireAtHomeGrants := by
  intro s p t l m w rest ready head home
  rw [exec_acquireAtHome s p t l m w rest ready head]
  refine ⟨fun new room => ?_, fun e found new => ⟨fun free => ?_, ?_⟩⟩
  · rw [acquireStep_newEntry p t m w home new room]
    rfl
  · rw [acquireStep_freeEntry p t m w home found new free]
    rfl
  · rintro shared quiet rfl
    rw [acquireStep_joins p t w home found new shared quiet]
    rfl

/-! ## What follows the removal of a holder -/

/-- The cases of what a step stores, and of the GRANTs it sends, after a holder left an entry (R15, R27 to R30). -/
theorem afterHolderLeft_cases {Q : List HomeEntry → List OutResponse → Prop} (left : HomeEntry) (l : LockId)
    (table : List HomeEntry) (stored : Q (storeEntry l (afterHolderLeft left).1 table) (afterHolderLeft left).2) :
    (left.holders ≠ [] → Q (putEntry left table) []) ∧
    (left.holders = [] → left.waiters ≠ [] → Q (putEntry (regrant left).1 table) (regrant left).2) ∧
    (left.holders = [] → left.waiters = [] →
      (left.value = [] → Q (removeEntry l table) []) ∧
      (left.value ≠ [] → Q (putEntry { left with state := .free } table) [])) := by
  refine ⟨fun held => ?_, fun gone queue => ?_, fun gone quiet => ⟨fun empty => ?_, fun kept => ?_⟩⟩
  · rwa [State.afterHolderLeft_holds left held] at stored
  · rwa [State.afterHolderLeft_regrants left gone queue] at stored
  · rwa [State.afterHolderLeft_frees left gone quiet, if_pos empty] at stored
  · rwa [State.afterHolderLeft_frees left gone quiet, if_neg kept] at stored

/-! ## A RELEASE at the home -/

theorem HomeEntry.heldBy_iff (e : HomeEntry) (p : Station) (t : Tag) :
    e.heldBy p t = true ↔ { station := p, tag := t } ∈ e.holders := by
  simp [heldBy]

theorem HomeEntry.awaitedBy_iff (e : HomeEntry) (p : Station) (t : Tag) :
    e.awaitedBy p t = true ↔ ∃ w ∈ e.waiters, w.station = p ∧ w.tag = t := by
  simp [awaitedBy]

theorem HomeEntry.not_awaitedBy (e : HomeEntry) (p : Station) (t : Tag)
    (noWaiter : ∀ w ∈ e.waiters, ¬ (w.station = p ∧ w.tag = t)) : ¬ e.awaitedBy p t = true := by
  simpa [awaitedBy] using noWaiter

section ReleaseStep

variable {table : List HomeEntry} {l : LockId} {e : HomeEntry}
variable (p : Station) (t : Tag) (g : Word) (u : Bool) (v : List Byte)

/-- A RELEASE of no hold, or of another generation, is STALE (R26). -/
theorem releaseStep_stale
    (stale : findEntry table l = none ∨ ∃ e, findEntry table l = some e ∧
      ({ station := p, tag := t } ∉ e.holders ∨ g ≠ e.generation)) :
    releaseStep table p t l g u v = answerOnly table p (.released l t .stale) := by
  unfold releaseStep
  rcases stale with new | ⟨e, found, other⟩
  · rw [new]
  · rw [found]
    rw [← HomeEntry.heldBy_iff, Bool.not_eq_true] at other
    exact if_pos other

/-- A RELEASE by a holder removes it and may replace the value (R27). -/
theorem releaseStep_held (found : findEntry table l = some e) (held : { station := p, tag := t } ∈ e.holders)
    (left : HomeEntry) (removed : left = { e with
      holders := e.holders.filter (fun h => decide (h ≠ { station := p, tag := t })),
      value := if u = true ∧ e.state = .exclusive then v else e.value }) :
    releaseStep table p t l e.generation u v =
      { table := storeEntry l (afterHolderLeft left).1 table,
        responses :=
          { destination := p, body := .released l t (if u = true ∧ e.state = .shared then .valueIgnored else .ok) } ::
            (afterHolderLeft left).2 } := by
  have holds : e.heldBy p t = true := (e.heldBy_iff p t).mpr held
  have same : (if u = true ∧ e.state = .exclusive then { e.dropHolder p t with value := v } else e.dropHolder p t) =
      left := by
    rw [removed]
    split <;> rfl
  simp only [releaseStep, found, holds, Bool.true_eq_false, ne_eq, not_true_eq_false, or_self, if_false, same]

end ReleaseStep

/-- A service step that may be taken on a RELEASE at the head (R21, R26, R27). -/
theorem exec_releaseAtHome (s : State) (p : Station) (t : Tag) (l : LockId) (g : Word) (u : Bool) (v : List Byte)
    (rest : List InboundRequest) (ready : s.serviceReady)
    (head : s.home.inbound = { source := p, body := .release l t g u v } :: rest) :
    exec .releaseAtHome s = .next (s.carryOut rest (releaseStep s.home.table p t l g u v)) := by
  have taken : exec .releaseAtHome s = .next s.serveRelease :=
    congrArg Host.Outcome.next (running_of_working s _ ready.1)
  rw [taken, State.serveRelease, s.serviceAllowed_of_ready ready, head]
  rfl

/-- Settles O27. -/
theorem releaseAtHomeStale : Obligations.ReleaseAtHomeStale := by
  intro s p t l g u v rest ready head stale
  rw [exec_releaseAtHome s p t l g u v rest ready head, releaseStep_stale p t g u v stale]
  rfl

/-- Settles O28: the holder is removed, and what follows goes by what it left. -/
theorem releaseAtHomeByHolder : Obligations.ReleaseAtHomeByHolder := by
  intro s p t l u v rest e ready head found held left answered
  have taken : exec .releaseAtHome s =
      .next (answered (storeEntry l (afterHolderLeft left).1 s.home.table) (afterHolderLeft left).2) := by
    rw [exec_releaseAtHome s p t l e.generation u v rest ready head, releaseStep_held p t u v found held left rfl]
    rfl
  exact afterHolderLeft_cases (Q := fun table grants => exec .releaseAtHome s = .next (answered table grants))
    left l s.home.table taken

/-! ## Regrant and reassessment -/

section Batch

variable {batch rest : List Waiter}

/-- The SHARED waiters up to the first EXCLUSIVE one (R29, R31). -/
theorem takeWhile_wantsShared (shared : ∀ w ∈ batch, w.mode = .shared)
    (stop : rest.head?.map Waiter.mode ≠ some .shared) :
    (batch ++ rest).takeWhile Waiter.wantsShared = batch := by
  have none : rest.takeWhile Waiter.wantsShared = [] := by
    cases rest with
    | nil => rfl
    | cons w ws => simpa [Waiter.wantsShared] using stop
  rw [List.takeWhile_append_of_pos (fun w hw => by simpa [Waiter.wantsShared] using shared w hw), none, List.append_nil]

/-- The rest of the queue stays in its order (R29, R31). -/
theorem dropWhile_wantsShared (shared : ∀ w ∈ batch, w.mode = .shared)
    (stop : rest.head?.map Waiter.mode ≠ some .shared) :
    (batch ++ rest).dropWhile Waiter.wantsShared = rest := by
  have whole := List.takeWhile_append_dropWhile (p := Waiter.wantsShared) (l := batch ++ rest)
  rw [takeWhile_wantsShared shared stop] at whole
  exact List.append_cancel_left whole

end Batch

/-- A reassessment leaves the entry of a lock that is not SHARED (R31). -/
theorem reassess_notShared {e : HomeEntry} (other : e.state ≠ .shared) : reassess e = (e, []) := by
  unfold reassess
  cases hs : e.state with
  | free => rfl
  | exclusive => rfl
  | shared => exact absurd hs other

/-- A reassessment of a SHARED lock (R31). -/
theorem reassess_shared {e : HomeEntry} (shared : e.state = .shared) : reassess e =
    ({ e with
        holders := addHolders (e.waiters.takeWhile Waiter.wantsShared) e.holders,
        waiters := e.waiters.dropWhile Waiter.wantsShared },
      e.grantsTo .shared (e.waiters.takeWhile Waiter.wantsShared)) := by
  rw [reassess, shared]

/-- Settles O29: the batch is what the queue's SHARED head is, and each of its waiters becomes a holder. -/
theorem regrantAndReassessment : Obligations.RegrantAndReassessment := by
  refine ⟨?_, fun e => ⟨reassess_notShared, ?_⟩⟩
  · rintro e _ rfl
    refine ⟨fun w rest queue exclusive => ?_, fun batch rest queue some shared stop => ?_⟩
    · rw [regrant_exclusive e w rest queue exclusive]
      rfl
    · obtain ⟨w, ws, rfl⟩ := List.exists_cons_of_ne_nil some
      rw [regrant_shared e w (ws ++ rest) queue (shared w List.mem_cons_self), HomeEntry.grantedBatch, queue,
        takeWhile_wantsShared shared stop, dropWhile_wantsShared shared stop]
      refine ⟨rfl, fun h => ?_, ?_, rfl⟩
      · simpa [Waiter.toHolder] using mem_addHolders (w :: ws) [] h
      · simpa using length_addHolders (w :: ws) []
  · intro batch rest hs queue shared stop
    rw [reassess_shared hs, queue, takeWhile_wantsShared shared stop, dropWhile_wantsShared shared stop]
    exact ⟨rfl, mem_addHolders batch e.holders, length_addHolders batch e.holders, rfl⟩

/-! ## A CANCEL at the home -/

section CancelStep

variable {table : List HomeEntry} {l : LockId} {e : HomeEntry}
variable (p : Station) (t : Tag)

/-- A CANCEL for a lock without an entry finds nothing (R32). -/
theorem cancelStep_noEntry (new : findEntry table l = none) :
    cancelStep table p t l = answerOnly table p (.cancelled l t .notFound) := by
  rw [cancelStep, new]

/-- A CANCEL of neither a waiter nor a holder finds nothing (R32). -/
theorem cancelStep_notFound (found : findEntry table l = some e)
    (noWaiter : ∀ w ∈ e.waiters, ¬ (w.station = p ∧ w.tag = t)) (noHolder : { station := p, tag := t } ∉ e.holders) :
    cancelStep table p t l = answerOnly table p (.cancelled l t .notFound) := by
  have awaited := e.not_awaitedBy p t noWaiter
  have held : ¬ e.heldBy p t = true := by rwa [e.heldBy_iff]
  simp only [cancelStep, found, if_neg awaited, if_neg held]

/-- A CANCEL of a waiter withdraws it (R31, R32). -/
theorem cancelStep_withdrawn (found : findEntry table l = some e)
    (waiter : ∃ w ∈ e.waiters, w.station = p ∧ w.tag = t) :
    cancelStep table p t l =
      { table := putEntry (reassess (e.dropWaiter p t)).1 table,
        responses := { destination := p, body := .cancelled l t .withdrawn } :: (reassess (e.dropWaiter p t)).2 } := by
  simp only [cancelStep, found, if_pos ((e.awaitedBy_iff p t).mpr waiter)]

/-- A CANCEL of a holder releases it (R30, R32). -/
theorem cancelStep_afterGrant (found : findEntry table l = some e)
    (noWaiter : ∀ w ∈ e.waiters, ¬ (w.station = p ∧ w.tag = t)) (holder : { station := p, tag := t } ∈ e.holders) :
    cancelStep table p t l =
      { table := storeEntry l (afterHolderLeft (e.dropHolder p t)).1 table,
        responses := { destination := p, body := .cancelled l t .afterGrant } ::
          (afterHolderLeft (e.dropHolder p t)).2 } := by
  have awaited := e.not_awaitedBy p t noWaiter
  simp only [cancelStep, found, if_neg awaited, if_pos ((e.heldBy_iff p t).mpr holder)]

end CancelStep

/-- A service step that may be taken on a CANCEL at the head (R21, R32). -/
theorem exec_cancelAtHome (s : State) (p : Station) (t : Tag) (l : LockId) (rest : List InboundRequest)
    (ready : s.serviceReady) (head : s.home.inbound = { source := p, body := .cancel l t } :: rest) :
    exec .cancelAtHome s = .next (s.carryOut rest (cancelStep s.home.table p t l)) := by
  have taken : exec .cancelAtHome s = .next s.serveCancel :=
    congrArg Host.Outcome.next (running_of_working s _ ready.1)
  rw [taken, State.serveCancel, s.serviceAllowed_of_ready ready, head]
  rfl

/-- Settles O30, by what the CANCEL finds. -/
theorem cancelAtHomeByFinding : Obligations.CancelAtHomeByFinding := by
  intro s p t l rest ready head answered
  rw [exec_cancelAtHome s p t l rest ready head]
  refine ⟨fun new => ?_, fun e found => ⟨fun waiter => ?_, fun noWaiter => ⟨fun noHolder => ?_, fun holder => ?_⟩⟩⟩
  · rw [cancelStep_noEntry p t new]
    rfl
  · rw [cancelStep_withdrawn p t found waiter]
    rfl
  · rw [cancelStep_notFound p t found noWaiter noHolder]
    rfl
  · rw [cancelStep_afterGrant p t found noWaiter holder]
    exact afterHolderLeft_cases
      (Q := fun table grants => _ = Host.Outcome.next (answered table .afterGrant grants))
      (e.dropHolder p t) l s.home.table rfl

/-! ## A walk step -/

section VisitStep

variable {table : List HomeEntry} {e : HomeEntry}

/-- A waiter or holder that is the only one of its station is the one a visit finds. -/
theorem find?_station {α : Type} (station : α → Station) {xs : List α} {x : α} {p : Station} (hx : x ∈ xs)
    (there : station x = p) (only : ∀ y ∈ xs, station y = p → y = x) :
    xs.find? (fun y => decide (station y = p)) = some x := by
  cases found : xs.find? (fun y => decide (station y = p)) with
  | none => simpa [there] using List.find?_eq_none.mp found x hx
  | some y =>
    have same : station y = p := by simpa using List.find?_some found
    rw [only y (List.mem_of_find?_eq_some found) same]

/-- A visit of an entry without the walked station (R35). -/
theorem visitStep_without {p : Station} (gone : e.involves p = false) :
    visitStep table p e = { table := table, responses := [] } := by
  obtain ⟨holders, waiters⟩ : (∀ h ∈ e.holders, h.station ≠ p) ∧ ∀ w ∈ e.waiters, w.station ≠ p := by
    simpa [HomeEntry.involves] using gone
  have noWaiter : e.waiters.find? (fun w => decide (w.station = p)) = none := by simpa using waiters
  have noHolder : e.holders.find? (fun h => decide (h.station = p)) = none := by simpa using holders
  simp only [visitStep, noWaiter, noHolder]

/-- A visit of an entry whose waiter the walked station is (R31, R35). -/
theorem visitStep_waiter {p : Station} {x : Waiter} (hx : x ∈ e.waiters) (there : x.station = p)
    (only : ∀ y ∈ e.waiters, y.station = p → y = x) (left : HomeEntry)
    (removed : left = { e with waiters := e.waiters.filter (fun y => decide (y.station ≠ p)) }) :
    visitStep table p e = { table := putEntry (reassess left).1 table, responses := (reassess left).2 } := by
  have same : e.dropWaiter p x.tag = left := by
    rw [removed, HomeEntry.dropWaiter]
    congr 1
    refine List.filter_congr fun y hy => decide_eq_decide.mpr ⟨fun other same => ?_, fun other same => other same.1⟩
    exact other ⟨same, by rw [only y hy same]⟩
  simp only [visitStep, find?_station Waiter.station hx there only, same]

/-- A visit of an entry whose holder the walked station is (R30, R35). -/
theorem visitStep_holder {p : Station} {x : Holder} (noWaiter : ∀ y ∈ e.waiters, y.station ≠ p) (hx : x ∈ e.holders)
    (there : x.station = p) (only : ∀ y ∈ e.holders, y.station = p → y = x) (left : HomeEntry)
    (removed : left = { e with holders := e.holders.filter (fun y => decide (y.station ≠ p)) }) :
    visitStep table p e =
      { table := storeEntry e.lock (afterHolderLeft left).1 table, responses := (afterHolderLeft left).2 } := by
  have none : e.waiters.find? (fun w => decide (w.station = p)) = none := by simpa using noWaiter
  have same : e.dropHolder p x.tag = left := by
    rw [removed, HomeEntry.dropHolder]
    congr 1
    refine List.filter_congr fun y hy => decide_eq_decide.mpr ⟨fun other same => ?_, fun other same => ?_⟩
    · exact other (by rw [only y hy same, ← there])
    · exact other (congrArg Holder.station same)
  simp only [visitStep, none, find?_station Holder.station hx there only, same]

end VisitStep

/-- The home controller after a visit: the walk goes on, or ends and the next one begins (R34 to R36). -/
theorem settleWalk_afterVisit (h : HomeController) (w : Walk) (walk : h.walk = some w) : settleWalk h =
    if w.goesOn h.table then h
    else if h.table = [] then { h with walk := none, pendingPurge := [] }
    else { h with
      walk := h.pendingPurge.head?.map (fun q => { station := q, position := 0 }),
      pendingPurge := h.pendingPurge.tail } := by
  unfold settleWalk
  rw [walk]
  dsimp only
  split
  · rfl
  · cases table : h.table with
    | nil => rfl
    | cons e es => cases pending : h.pendingPurge <;> rfl

/-- A walk step is taken on the entry it visits (R35, R36). -/
theorem exec_walkStep (s : State) (w : Walk) (e : HomeEntry) (working : s.working) (online : s.ctl.state = .online)
    (walk : s.home.walk = some w) (room : s.dlv.responses.length + 16 ≤ 32)
    (next : nextEntry s.home.table w.position = some e) (x : HomeStep)
    (visit : visitStep s.home.table w.station e = x) :
    exec .walkStep s = .next ((s.homeStepDone s.home.inbound x.table x.responses).withHome
      (settleWalk { s.home with table := x.table, walk := some { w with position := e.lock.toNat + 1 } })) := by
  have taken : exec .walkStep s = .next s.stepWalk := congrArg Host.Outcome.next (running_of_working s _ working)
  have free : ¬ (s.roomForStep = false ∨ s.ctl.state ≠ .online) := by
    simp [State.roomForStep, Config.reservedResponses, Config.outboundEntries, room, online]
  rw [taken, State.stepWalk, if_neg free, walk]
  simp only [next, visit, State.advanceWalk, State.carryOut_home]
  rfl

/-- Settles O32: the visit's cases, each followed by the walk's next position. -/
theorem walkStepVisits : Obligations.WalkStepVisits := by
  intro s w e working online walk room next walked
  have visits (x : HomeStep) (visit : visitStep s.home.table w.station e = x) :
      exec .walkStep s = .next (walked x.table x.responses) := by
    rw [exec_walkStep s w e working online walk room next x visit, settleWalk_afterVisit _ _ rfl]
    rfl
  refine ⟨fun gone => visits _ (visitStep_without gone), fun x hx there only => ?_,
    fun noWaiter x hx there only => ?_⟩
  · exact visits _ (visitStep_waiter hx there only _ rfl)
  · exact afterHolderLeft_cases (Q := fun table grants => exec .walkStep s = .next (walked table grants)) _ e.lock
      s.home.table (visits _ (visitStep_holder noWaiter hx there only _ rfl))

/-! ## The home waits -/

/-- A service step that may not be taken does nothing (R21, R40). -/
theorem serve_of_not_allowed {s : State} (held : s.serviceAllowed = false) :
    s.serveAcquire = s ∧ s.serveRelease = s ∧ s.serveCancel = s :=
  ⟨if_pos held, if_pos held, if_pos held⟩

/-- A walk step without room, outside ONLINE or without a walk does nothing (R35). -/
theorem stepWalk_of_held {s : State}
    (held : 32 < s.dlv.responses.length + 16 ∨ s.ctl.state ≠ .online ∨ s.home.walk = none) : s.stepWalk = s := by
  unfold State.stepWalk
  split
  · rfl
  · next free =>
    have none : s.home.walk = none := by
      rcases held with full | off | none
      · exact absurd (.inl (decide_eq_false (Nat.not_le.mpr full))) free
      · exact absurd (.inr off) free
      · exact none
    rw [none]

/-- Settles O33: under RST- nothing is taken, and otherwise the step's own check holds it back. -/
theorem homeStepsHeldBack : Obligations.HomeStepsHeldBack := by
  intro s
  by_cases asserted : s.ctl.resetAsserted = true
  · have still (f : State → State) : running s f = s := if_pos asserted
    exact ⟨fun _ => ⟨congrArg Host.Outcome.next (still _), congrArg Host.Outcome.next (still _),
      congrArg Host.Outcome.next (still _)⟩, fun _ => congrArg Host.Outcome.next (still _)⟩
  · have working : s.working := by simpa using asserted
    have taken (f : State → State) (same : f s = s) : running s f = s := (running_of_working s f working).trans same
    refine ⟨fun notReady => ?_, fun held => congrArg Host.Outcome.next (taken _ (stepWalk_of_held held))⟩
    obtain ⟨acquire, release, cancel⟩ := serve_of_not_allowed (s.serviceAllowed_of_not_ready working notReady)
    exact ⟨congrArg Host.Outcome.next (taken _ acquire), congrArg Host.Outcome.next (taken _ release),
      congrArg Host.Outcome.next (taken _ cancel)⟩

end Sys2Proof.Machine

/-! # The purge of a peer (R33, R69, R70, R133, R138, R139): O49

What a purge makes of each block, from the equations of its parts. -/

namespace Sys2Proof.Machine

/-! ## The walk -/

/-- A walk that has an entry left goes on. -/
theorem settleWalk_goesOn {h : HomeController} {w : Walk} (walk : h.walk = some w)
    (on : w.goesOn h.table = true) : settleWalk h = h := by
  rw [settleWalk_afterVisit h w walk, if_pos on]

/-- Over an empty table there is no walk and no purge pending (R36; log 20). -/
theorem settleWalk_empty {h : HomeController} (table : h.table = []) :
    settleWalk h = { h with walk := none, pendingPurge := [] } := by
  cases walk : h.walk with
  | none =>
    rw [settleWalk, walk, table]
  | some w =>
    have ended : ¬ w.goesOn h.table = true := by simp [Walk.goesOn, nextEntry, table]
    rw [settleWalk_afterVisit h w walk, if_neg ended, if_pos table]

/-- With no walk the lowest station pending is walked from lock ID 0 (R34). -/
theorem settleWalk_begins {h : HomeController} {p : Station} {ps : List Station} (walk : h.walk = none)
    (pending : h.pendingPurge = p :: ps) (table : h.table ≠ []) :
    settleWalk h = { h with walk := some { station := p, position := 0 }, pendingPurge := ps } := by
  obtain ⟨e, es, table⟩ := List.exists_cons_of_ne_nil table
  rw [settleWalk, walk, table, pending]

namespace HomeController

variable (h : HomeController) (p : Station)

/-- The home controller without the requests of a station. -/
def withoutRequests : HomeController :=
  { h with inbound := h.inbound.filter (fun r => decide (r.source ≠ p)) }

/-- The home controller with the purge of a station pending. -/
def pendingPurgeOf : HomeController :=
  { h.withoutRequests p with pendingPurge := insertStation p h.pendingPurge }

/-- A purge outside ONLINE, or of a station pending or walked, is absorbed (R33, R40). -/
theorem purge_absorbed (online : Bool)
    (absorbed : online = false ∨ p ∈ h.pendingPurge ∨ ∃ w, h.walk = some w ∧ w.station = p) :
    h.purge online p = h.withoutRequests p := by
  unfold purge
  dsimp only
  split
  · rfl
  · next on =>
    refine if_pos ?_
    rcases absorbed with off | pending | ⟨w, walk, same⟩
    · exact absurd off on
    · exact .inl pending
    · exact .inr (by simp [walk, same])

/-- Any other purge is recorded for a walk (R33). -/
theorem purge_recorded (notPending : p ∉ h.pendingPurge) (notWalked : ∀ w, h.walk = some w → w.station ≠ p) :
    h.purge true p = settleWalk (h.pendingPurgeOf p) := by
  unfold purge
  dsimp only
  rw [if_neg (by simp), if_neg]
  · rfl
  · simpa [notPending, Option.any_eq_true] using notWalked

/-- A purge leaves the table, and of the inbound requests those of the others (R33). -/
theorem purge_kept (online : Bool) :
    (h.purge online p).table = h.table ∧ (h.purge online p).inbound = (h.withoutRequests p).inbound := by
  unfold purge
  dsimp only
  split
  · exact ⟨rfl, rfl⟩
  · split
    · exact ⟨rfl, rfl⟩
    · exact settleWalk_kept _

/-- With no walk and no purge pending the walk of the purged station begins (R34). -/
theorem purge_begins (table : h.table ≠ []) (walk : h.walk = none) (pending : h.pendingPurge = []) :
    (h.purge true p).walk = some { station := p, position := 0 } ∧ (h.purge true p).pendingPurge = [] := by
  have alone : (h.pendingPurgeOf p).pendingPurge = [p] := by rw [pendingPurgeOf, pending, insertStation]
  rw [h.purge_recorded p (by simp [pending]) (by simp [walk]),
    settleWalk_begins (h := h.pendingPurgeOf p) walk alone table]
  exact ⟨rfl, rfl⟩

/-- Over an empty table a purge leaves no walk (R36; log 20). -/
theorem purge_empty (table : h.table = []) (notPending : p ∉ h.pendingPurge)
    (notWalked : ∀ w, h.walk = some w → w.station ≠ p) :
    (h.purge true p).walk = none ∧ (h.purge true p).pendingPurge = [] := by
  rw [h.purge_recorded p notPending notWalked, settleWalk_empty (h := h.pendingPurgeOf p) table]
  exact ⟨rfl, rfl⟩

/-- During a walk of another station the purged one is pending (R33, R34). -/
theorem purge_pending {w : Walk} (walk : h.walk = some w) (on : w.goesOn h.table = true) (other : w.station ≠ p) :
    (h.purge true p).walk = some w ∧ ∀ q, q ∈ (h.purge true p).pendingPurge ↔ q = p ∨ q ∈ h.pendingPurge := by
  by_cases pending : p ∈ h.pendingPurge
  · rw [h.purge_absorbed p true (.inr (.inl pending))]
    refine ⟨walk, fun q => ⟨.inr, ?_⟩⟩
    rintro (rfl | old)
    · exact pending
    · exact old
  · have notWalked : ∀ v, h.walk = some v → v.station ≠ p := by
      intro v hv
      obtain rfl := Option.some.inj (walk.symm.trans hv)
      exact other
    rw [h.purge_recorded p pending notWalked, settleWalk_goesOn (h := h.pendingPurgeOf p) walk on]
    exact ⟨walk, fun q => mem_insertStation p q h.pendingPurge⟩

end HomeController

/-! ## The line and the port -/

/-- An attempt is abandoned when its frame goes to the purged peer (R125). -/
theorem Attempt.abandonTo_eq (a : Attempt) (p : Station) : a.abandonTo p =
    if a.kind = .addressed p .request ∨ a.kind = .addressed p .response then { a with ignored := true } else a := by
  unfold Attempt.abandonTo
  cases a.kind with
  | presence => simp
  | leave => simp
  | addressed d q => cases q <;> simp

namespace State

/-- The port after a purge: the read stalled for a slot homed at the peer ends LOST (R70). -/
theorem purge_port (s : State) (p : Station) (c : PurgeCause) :
    ((s.purge p c).port = s.port ∧ ∀ t n r, s.port.window = .stalled t n → s.slot t = some r →
        r.isOpen = true → r.home ≠ p) ∨
      ∃ t n r, s.port.window = .stalled t n ∧ s.slot t = some r ∧ r.home = p ∧ r.isOpen = true ∧
        (s.purge p c).port =
          { s.port with window := .idle, dataOut := some (resultWord CompletionKind.lost.code (.purge c)) } := by
  have lost := loseSlots_port (((s.purgeDelivery p).purgeRoster p c).purgeHome p) (fun h => decide (h = p)) (.purge c)
  simp only [decide_eq_true_eq, decide_eq_false_iff_not] at lost
  exact lost

/-- The records a purge posts (R69, R70). -/
theorem purge_completions (s : State) (p : Station) (c : PurgeCause) :
    ∃ lost : List CompletionRecord, (s.purge p c).req.completions = s.req.completions ++ lost ∧
      ∀ u : Tag, lost.filter (fun x => decide (x.slot = u)) =
        s.lostRecordsOf u (fun h => decide (h = p)) (.purge c) := by
  obtain ⟨lost, posted, each⟩ :=
    (s.purgeDelivery p).loseSlots_completions (fun h => decide (h = p)) (.purge c)
  exact ⟨lost, by rw [purge_req, posted]; rfl, each⟩

end State

/-- Settles O49, block by block. -/
theorem purgeOfPeer : Obligations.PurgeOfPeer := by
  intro s p c
  obtain ⟨lost, posted, each⟩ := s.purge_completions p c
  have slot (u : Tag) := s.slot_purge p c u
  have stands : (s.purge p c).dlv.requests = s.dlv.requests.filter (fun e => decide (e.destination ≠ p)) := by
    rw [s.purge_dlv]
  obtain ⟨sameTable, filtered⟩ := s.home.purge_kept p (decide (s.ctl.state = .online))
  have online (h : s.ctl.state = .online) : (s.purge p c).home = s.home.purge true p := by
    rw [s.purge_home, decide_eq_true h]
  refine ⟨lost, each, s.purge_ctl p c, s.purge_dlv p c, ?roster, ?line, ?table, ?inbound, ?begins,
    ?empty, ?pending, ?absorbed, posted, ?others, ?lost, ?done, ?free, ?stalled, ?idle⟩
  case roster => rw [s.purge_roster]; cases c <;> rfl
  case line => simp only [s.purge_bus, Attempt.abandonTo_eq]
  case table => rw [s.purge_home, sameTable]
  case inbound => rw [s.purge_home, filtered, HomeController.withoutRequests]
  case begins =>
    intro on some walk pending
    rw [online on]
    exact s.home.purge_begins p some walk pending
  case empty =>
    intro on none notPending notWalked
    rw [online on]
    exact s.home.purge_empty p none notPending notWalked
  case pending =>
    intro w on walk goesOn other
    rw [online on]
    exact s.home.purge_pending p walk goesOn other
  case absorbed =>
    intro absorbed
    rw [s.purge_home]
    refine s.home.purge_absorbed p _ (absorbed.imp_left fun off => decide_eq_false off)
  case others =>
    intro u r hr other
    rw [slot u, hr]
    exact if_neg other
  case lost =>
    intro u r hr there isOpen
    rw [slot u, hr, stands]
    dsimp only
    rw [if_pos there]
    exact ⟨r.lose_posting u _ _ isOpen, r.lose_quietly u _ _ isOpen⟩
  case done =>
    intro u r hr there closed
    rw [slot u, hr, stands]
    dsimp only
    rw [if_pos there]
    exact r.lose_done u _ _ (by simpa [SlotRecord.isOpen] using closed)
  case free =>
    intro u free
    rw [slot u, free]
  case stalled =>
    intro u n r stalled hr there isOpen
    rcases s.purge_port p c with ⟨_, kept⟩ | ⟨_, _, _, _, _, _, _, port⟩
    · exact absurd there (kept u n r stalled hr isOpen)
    · exact port
  case idle =>
    intro idle
    rcases s.purge_port p c with ⟨port, _⟩ | ⟨_, _, _, stalled, _⟩
    · exact port
    · exact absurd (idle.symm.trans stalled) nofun

end Sys2Proof.Machine

/-! # The words of the local port (R168, R170 to R172, R178 to R184): O54

What stands at each range of addresses, then the fields of the words that have them. -/

namespace Sys2Proof.Machine

/-! ## Fields of a word -/

section Fields

variable {v w : Nat} {hi : BitVec v} {lo : BitVec w}

/-- A field that is all of a vector. -/
theorem extractLsb'_whole (x : BitVec w) {start : Nat} (whole : start = 0) : x.extractLsb' start w = x := by
  rw [whole, BitVec.extractLsb'_eq_self]

/-- A bit of the low part. -/
theorem getLsbD_append_low {i : Nat} (low : i < w) : (hi ++ lo).getLsbD i = lo.getLsbD i := by
  rw [BitVec.getLsbD_append, if_pos low]

/-- A bit of the high part. -/
theorem getLsbD_append_high {i : Nat} (high : w ≤ i) : (hi ++ lo).getLsbD i = hi.getLsbD (i - w) := by
  rw [BitVec.getLsbD_append, if_neg (Nat.not_lt.mpr high)]

/-- The bit of a flag. -/
theorem getLsbD_flag (b : Bool) {i : Nat} (first : i = 0) : (BitVec.ofBool b).getLsbD i = b := by
  rw [first, BitVec.getLsbD_ofBool]
  rfl

end Fields

/-- The fields of the status word (R166). -/
theorem statusWord_fields (c : BitVec 2) (n : BitVec 4) (r : BitVec 2) (k : BitVec 1) (f : BitVec 2) (d m : Bool) :
    let w := c ++ n ++ r ++ k ++ f ++ BitVec.ofBool d ++ BitVec.ofBool m ++ 0#3
    w.extractLsb' 14 2 = c ∧ w.extractLsb' 10 4 = n ∧ w.extractLsb' 8 2 = r ∧ w.extractLsb' 7 1 = k ∧
      w.extractLsb' 5 2 = f ∧ w.getLsbD 4 = d ∧ w.getLsbD 3 = m ∧ w.extractLsb' 0 3 = 0#3 := by
  refine ⟨?_, ?_, ?_, ?_, ?_, ?_, ?_, ?_⟩ <;>
    simp (disch := omega) only [BitVec.extractLsb'_append_eq_of_le, BitVec.extractLsb'_append_eq_of_add_le,
      extractLsb'_whole, getLsbD_append_low, getLsbD_append_high, getLsbD_flag, -Nat.reduceAdd]

/-- The fields of the second word of a record (R195). -/
theorem recordWord_fields (n : BitVec 5) (o : BitVec 1) (m : BitVec 2) (t : BitVec 5) :
    let w := n ++ o ++ m ++ 0#3 ++ t
    w.extractLsb' 11 5 = n ∧ w.extractLsb' 10 1 = o ∧ w.extractLsb' 8 2 = m ∧ w.extractLsb' 5 3 = 0#3 ∧
      w.extractLsb' 0 5 = t := by
  refine ⟨?_, ?_, ?_, ?_, ?_⟩ <;>
    simp (disch := omega) only [BitVec.extractLsb'_append_eq_of_le, BitVec.extractLsb'_append_eq_of_add_le,
      extractLsb'_whole, -Nat.reduceAdd]

/-- The fields of the first probe result word, the head waiter's byte being `h` (R183). -/
theorem probeWord_fields (x : BitVec 2) (n : BitVec 4) (h : BitVec 8) :
    let w := 1#1 ++ 0#1 ++ x ++ n ++ h
    w.getLsbD 15 = true ∧ w.getLsbD 14 = false ∧ w.extractLsb' 12 2 = x ∧ w.extractLsb' 8 4 = n ∧
      w.extractLsb' 0 8 = h ∧ w.getLsbD 7 = h.getLsbD 7 ∧ w.getLsbD 6 = h.getLsbD 6 ∧
      w.extractLsb' 4 2 = h.extractLsb' 4 2 ∧ w.extractLsb' 0 4 = h.extractLsb' 0 4 := by
  refine ⟨?_, ?_, ?_, ?_, ?_, ?_, ?_, ?_, ?_⟩
  case refine_1 =>
    simp (disch := omega) only [getLsbD_append_high, -Nat.reduceAdd]
    rfl
  case refine_2 =>
    simp (disch := omega) only [getLsbD_append_low, getLsbD_append_high, -Nat.reduceAdd]
    rfl
  all_goals
    simp (disch := omega) only [BitVec.extractLsb'_append_eq_of_le, BitVec.extractLsb'_append_eq_of_add_le,
      extractLsb'_whole, getLsbD_append_low, -Nat.reduceAdd]

/-- The fields of the head waiter's byte (R183). -/
theorem headWaiter_fields (m : BitVec 2) (p : BitVec 4) :
    let h := 1#1 ++ 0#1 ++ m ++ p
    h.getLsbD 7 = true ∧ h.getLsbD 6 = false ∧ h.extractLsb' 4 2 = m ∧ h.extractLsb' 0 4 = p := by
  refine ⟨?_, ?_, ?_, ?_⟩
  case refine_1 =>
    simp (disch := omega) only [getLsbD_append_high, -Nat.reduceAdd]
    rfl
  case refine_2 =>
    simp (disch := omega) only [getLsbD_append_low, getLsbD_append_high, -Nat.reduceAdd]
    rfl
  all_goals
    simp (disch := omega) only [BitVec.extractLsb'_append_eq_of_le, BitVec.extractLsb'_append_eq_of_add_le,
      extractLsb'_whole, -Nat.reduceAdd]

/-- A mode reads the same in two bits and in a byte. -/
theorem LockMode.code2_toNat (m : LockMode) : m.code2.toNat = m.code.toNat := by
  cases m <;> rfl

/-- A number that fits its field. -/
theorem toNat_ofNat_of_lt {w n : Nat} (fits : n < 2 ^ w) : (BitVec.ofNat w n).toNat = n := by
  rw [BitVec.toNat_ofNat, Nat.mod_eq_of_lt fits]

namespace State

/-- The stations of the set of holders (R38). -/
theorem holderSet_bit (hs : List Holder) (p : Station) :
    (holderSet hs).getLsbD p.val = true ↔ ∃ h ∈ hs, h.station = p := by
  have folded (w : Word) : (hs.foldl (fun w h => w ||| (1#16 <<< h.station.val)) w).getLsbD p.val = true ↔
      w.getLsbD p.val = true ∨ ∃ h ∈ hs, h.station = p := by
    induction hs generalizing w with
    | nil => simp
    | cons h hs ih =>
      rw [List.foldl_cons, ih, BitVec.getLsbD_or, Bool.or_eq_true, stationBit, or_assoc, List.exists_mem_cons_iff,
        eq_comm (a := p)]
  rw [holderSet, folded]
  simp

variable (s : State) {a : PortAddr}

/-! ## What stands at a range of addresses (R168) -/

theorem wordAt_range {n : Nat} (place : a.toNat = 0x010 + n) (inside : n < 24) : s.wordAt a = s.rangeWord n := by
  simp (disch := omega) only [wordAt, place, if_neg, if_pos, Nat.add_sub_cancel_left]

theorem wordAt_staging {n : Nat} (place : a.toNat = 0x030 + n) (inside : n < 14) :
    s.wordAt a = s.staged (Fin.ofNat 14 n) := by
  simp (disch := omega) only [wordAt, place, if_neg, if_pos, Nat.add_sub_cancel_left]

theorem wordAt_completionHead {n : Nat} (place : a.toNat = 0x040 + n) (inside : n < 12) :
    s.wordAt a = s.completionHeadWord n := by
  simp (disch := omega) only [wordAt, place, if_neg, if_pos, Nat.add_sub_cancel_left]

theorem wordAt_probe {n : Nat} (place : a.toNat = 0x051 + n) (inside : n < 12) : s.wordAt a = s.probeWord n := by
  simp (disch := omega) only [wordAt, place, if_neg, if_pos, Nat.add_sub_cancel_left]

theorem wordAt_slot (t : Tag) : s.wordAt (BitVec.ofNat 14 (0x060 + t.val)) = s.slotWord t := by
  have place : (BitVec.ofNat 14 (0x060 + t.val)).toNat = 0x060 + t.val := toNat_ofNat_of_lt (by omega)
  have tag : tagOfNat t.val = t := Fin.ext (Nat.mod_eq_of_lt t.isLt)
  simp (disch := omega) only [wordAt, place, if_neg, if_pos, Nat.add_sub_cancel_left, tag]

theorem wordAt_roster (p : Station) : s.wordAt (BitVec.ofNat 14 (0x080 + p.val)) = s.rosterWord p := by
  have place : (BitVec.ofNat 14 (0x080 + p.val)).toNat = 0x080 + p.val := toNat_ofNat_of_lt (by omega)
  have station : stationOfNat p.val = p := Fin.ext (Nat.mod_eq_of_lt p.isLt)
  simp (disch := omega) only [wordAt, place, if_neg, if_pos, Nat.add_sub_cancel_left, station]

theorem wordAt_grantValue {n : Nat} (place : a.toNat = 0x090 + n) (inside : n < 8) :
    s.wordAt a = valueWord s.port.lastGrant.value n := by
  simp (disch := omega) only [wordAt, place, if_neg, if_pos, Nat.add_sub_cancel_left]

/-- The submit and pop words, the release window and the gaps read 0. -/
theorem wordAt_gap (gap : a.toNat = 0x03E ∨ 0x04C ≤ a.toNat ∧ a.toNat ≤ 0x04F ∨ 0x005 ≤ a.toNat ∧ a.toNat ≤ 0x007 ∨
    0x00D ≤ a.toNat ∧ a.toNat ≤ 0x00F ∨ 0x029 ≤ a.toNat ∧ a.toNat ≤ 0x02F ∨
    0x05D ≤ a.toNat ∧ a.toNat ≤ 0x05F ∨ 0x09A ≤ a.toNat ∧ a.toNat ≤ 0x0FFF ∨ 0x3000 ≤ a.toNat) :
    s.wordAt a = 0#16 := by
  simp (disch := omega) only [wordAt, if_neg]

/-! ## What the words show -/

/-- A read outside the acquire windows (R167). -/
theorem reads_wordAt (free : s.portFree) (plain : a.toNat < 0x1000 ∨ 0x3000 ≤ a.toNat) : s.reads a (s.wordAt a) := by
  rw [reads, takeCycle_read, portCycle_of_free s _ free, readWord_plain _ a plain]
  rfl

/-- The words of a range record (R171). -/
theorem wordAt_rangeRecord (k : Fin 8) :
    s.wordAt (BitVec.ofNat 14 (0x010 + 3 * k.val)) = (s.ctl.cfg.ranges.get k).first ∧
    s.wordAt (BitVec.ofNat 14 (0x011 + 3 * k.val)) = (s.ctl.cfg.ranges.get k).last ∧
    s.wordAt (BitVec.ofNat 14 (0x012 + 3 * k.val)) = (s.ctl.cfg.ranges.get k).home := by
  have record (j : Nat) (hj : j < 3) : Fin.ofNat 8 ((3 * k.val + j) / 3) = k :=
    Fin.ext (by rw [Fin.val_ofNat]; omega)
  have word (j : Nat) (hj : j < 3) : (3 * k.val + j) % 3 = j := by omega
  have shown (n j : Nat) (hj : j < 3) (hn : n = 0x010 + (3 * k.val + j)) :
      s.wordAt (BitVec.ofNat 14 n) = s.rangeWord (3 * k.val + j) :=
    s.wordAt_range ((toNat_ofNat_of_lt (by omega)).trans hn) (by omega)
  refine ⟨(shown _ 0 (by omega) (by omega)).trans ?_, (shown _ 1 (by omega) (by omega)).trans ?_,
    (shown _ 2 (by omega) (by omega)).trans ?_⟩
  · simp only [rangeWord, record 0 (by omega), word 0 (by omega)]
  · simp only [rangeWord, record 1 (by omega), word 1 (by omega)]
  · simp only [rangeWord, record 2 (by omega), word 2 (by omega)]

/-- A staging word (R172). -/
theorem wordAt_stagingWord (i : Fin 14) : s.wordAt (BitVec.ofNat 14 (0x030 + i.val)) = s.port.staging.get i := by
  rw [s.wordAt_staging (n := i.val) (toNat_ofNat_of_lt (by omega)) i.isLt, staged]
  exact congrArg _ (Fin.ext (Nat.mod_eq_of_lt i.isLt))

/-- The words of the head record (R178, R195). -/
theorem wordAt_headRecord {c : CompletionRecord} {cs : List CompletionRecord} (head : s.req.completions = c :: cs) :
    s.wordAt 0x040#14 = c.kind.code ++ c.reason.code ∧
      (c.value.length ≤ 16 → ((s.wordAt 0x041#14).extractLsb' 11 5).toNat = c.value.length) ∧
      (s.wordAt 0x041#14).extractLsb' 10 1 = c.origin.code ∧
      ((s.wordAt 0x041#14).extractLsb' 8 2).toNat = c.mode.code.toNat ∧
      (s.wordAt 0x041#14).extractLsb' 5 3 = 0#3 ∧
      ((s.wordAt 0x041#14).extractLsb' 0 5).toNat = c.slot.val ∧
      s.wordAt 0x042#14 = lockWord c.lock ∧ s.wordAt 0x043#14 = c.generation ∧
      showsValue (fun k => s.wordAt (BitVec.ofNat 14 (0x044 + k))) c.value := by
  have word (a : PortAddr) (n : Nat) (place : a.toNat = 0x040 + n) (inside : n < 12) :=
    (s.wordAt_completionHead place inside).trans (by rw [completionHeadWord, head])
  obtain ⟨length, origin, mode, gap, slot⟩ := recordWord_fields (BitVec.ofNat 5 c.value.length) c.origin.code
    c.mode.code2 (BitVec.ofNat 5 c.slot.val)
  have second := word 0x041#14 1 rfl (by omega)
  refine ⟨word _ 0 rfl (by omega), ?_, ?_, ?_, ?_, ?_, word _ 2 rfl (by omega), word _ 3 rfl (by omega), fun k => ?_⟩
  · intro fits
    rw [second]
    exact (congrArg _ length).trans (toNat_ofNat_of_lt (by omega))
  · rw [second]
    exact origin
  · rw [second]
    exact (congrArg _ mode).trans c.mode.code2_toNat
  · rw [second]
    exact gap
  · rw [second]
    exact (congrArg _ slot).trans (toNat_ofNat_of_lt c.slot.isLt)
  · exact word _ (k.val + 4) ((toNat_ofNat_of_lt (by omega)).trans (by omega)) (by omega)

/-- A probe of no entry reads 0 (R183). -/
theorem wordAt_probeNone
    (none : 4095 < s.port.probeLock.toNat ∨ findEntry s.home.table (s.port.probeLock.setWidth 12) = none)
    (i : Fin 12) : s.wordAt (BitVec.ofNat 14 (0x051 + i.val)) = 0#16 := by
  have probed : s.probedEntry = .none := by
    unfold probedEntry
    split
    · next valid => exact none.resolve_left (Nat.not_lt.mpr valid)
    · rfl
  rw [s.wordAt_probe (n := i.val) (toNat_ofNat_of_lt (by omega)) i.isLt, probeWord, probed]

/-- The first probe result word by its fields, the head waiter's byte last (R183). -/
theorem probeHeadWord_eq (e : HomeEntry) : ∃ h : BitVec 8,
    probeHeadWord e = 1#1 ++ 0#1 ++ e.state.code ++ BitVec.ofNat 4 e.waiters.length ++ h ∧
      (e.waiters = [] → h = 0#8) ∧
      ∀ w ws, e.waiters = w :: ws → h = 1#1 ++ 0#1 ++ w.mode.code2 ++ BitVec.ofNat 4 w.station.val := by
  refine ⟨_, rfl, fun quiet => ?_, fun w ws queue => ?_⟩
  · rw [quiet]
  · rw [queue]

/-- The words of a probed entry (R38, R183). -/
theorem wordAt_probedEntry {e : HomeEntry} (valid : s.port.probeLock.toNat ≤ 4095)
    (found : findEntry s.home.table (s.port.probeLock.setWidth 12) = some e) :
    (s.wordAt 0x051#14).getLsbD 15 = true ∧ (s.wordAt 0x051#14).getLsbD 14 = false ∧
      (s.wordAt 0x051#14).extractLsb' 12 2 = e.state.code ∧
      (e.waiters.length ≤ 15 → ((s.wordAt 0x051#14).extractLsb' 8 4).toNat = e.waiters.length) ∧
      (e.waiters = [] → (s.wordAt 0x051#14).extractLsb' 0 8 = 0#8) ∧
      (∀ w ws, e.waiters = w :: ws →
        (s.wordAt 0x051#14).getLsbD 7 = true ∧ (s.wordAt 0x051#14).getLsbD 6 = false ∧
        ((s.wordAt 0x051#14).extractLsb' 4 2).toNat = w.mode.code.toNat ∧
        ((s.wordAt 0x051#14).extractLsb' 0 4).toNat = w.station.val) ∧
      (∀ p : Station, (s.wordAt 0x052#14).getLsbD p.val = true ↔ ∃ h ∈ e.holders, h.station = p) ∧
      s.wordAt 0x053#14 = e.generation ∧ s.wordAt 0x054#14 = BitVec.ofNat 16 e.value.length ∧
      showsValue (fun k => s.wordAt (BitVec.ofNat 14 (0x055 + k))) e.value := by
  have probed : s.probedEntry = some e := (if_pos valid).trans found
  have word (a : PortAddr) (n : Nat) (place : a.toNat = 0x051 + n) (inside : n < 12) :=
    (s.wordAt_probe place inside).trans (by rw [probeWord, probed])
  have first : s.wordAt 0x051#14 = probeHeadWord e := word _ 0 rfl (by omega)
  have holders : s.wordAt 0x052#14 = holderSet e.holders := word _ 1 rfl (by omega)
  obtain ⟨h, whole, quiet, queue⟩ := probeHeadWord_eq e
  obtain ⟨present, gap, state, count, head, bit7, bit6, mode, station⟩ :=
    probeWord_fields e.state.code (BitVec.ofNat 4 e.waiters.length) h
  rw [first, holders, whole]
  refine ⟨present, gap, state, ?_, ?_, ?_, holderSet_bit e.holders, word _ 2 rfl (by omega), word _ 3 rfl (by omega),
    fun k => ?_⟩
  · exact fun fits => (congrArg _ count).trans (toNat_ofNat_of_lt (by omega))
  · exact fun none => head.trans (quiet none)
  · intro w ws some
    obtain ⟨set, clear, headMode, headStation⟩ := headWaiter_fields w.mode.code2 (BitVec.ofNat 4 w.station.val)
    obtain rfl := queue w ws some
    refine ⟨bit7.trans set, bit6.trans clear, ?_, ?_⟩
    · exact (congrArg _ (mode.trans headMode)).trans w.mode.code2_toNat
    · exact (congrArg _ (station.trans headStation)).trans (toNat_ofNat_of_lt w.station.isLt)
  · exact word _ (k.val + 4) ((toNat_ofNat_of_lt (by omega)).trans (by omega)) (by omega)

/-- The words of the last window grant (R184). -/
theorem wordAt_lastGrant :
    showsValue (fun k => s.wordAt (BitVec.ofNat 14 (0x090 + k))) s.port.lastGrant.value :=
  fun k => s.wordAt_grantValue (n := k.val) (toNat_ofNat_of_lt (by omega)) k.isLt

/-- With no record queued the completion head reads 0 (R178). -/
theorem wordAt_noRecord (none : s.req.completions = []) (i : Fin 12) :
    s.wordAt (BitVec.ofNat 14 (0x040 + i.val)) = 0#16 := by
  rw [s.wordAt_completionHead (n := i.val) (toNat_ofNat_of_lt (by omega)) i.isLt, completionHeadWord, none]

/-- The FREE slots are the ones the free-slot count counts (R46). -/
theorem wordAt_freeSlots : ∃ free : List Tag, free.Nodup ∧ (∀ t, t ∈ free ↔ s.slot t = none) ∧
    s.wordAt 0x004#14 = BitVec.ofNat 16 free.length :=
  ⟨(List.finRange 32).filter (fun t => (s.slot t).isNone), (List.nodup_finRange 32).filter _,
    fun t => by simp, rfl⟩

end State

/-- Settles O54, range by range of the address map. -/
theorem portWords : Obligations.PortWords := by
  intro s
  obtain ⟨state, number, rate, cause, refusal, duplicate, map, gap⟩ :=
    statusWord_fields s.ctl.state.code (BitVec.ofNat 4 s.ctl.number.val) s.ctl.rateClass s.ctl.resetCause.code
      s.ctl.lastStartRefusal.code s.ctl.duplicateSeen s.ctl.mapActive
  refine ⟨fun free a plain => s.reads_wordAt free plain, rfl,
    ⟨state, (congrArg _ number).trans (toNat_ofNat_of_lt s.ctl.number.isLt), rate, cause, refusal, duplicate, map,
      gap⟩, rfl, rfl, ⟨rfl, rfl, rfl, rfl, rfl⟩, s.wordAt_rangeRecord, s.wordAt_stagingWord, rfl, fun a => s.wordAt_gap, rfl,
    BitVec.ofNat_toNat 16 _, s.wordAt_noRecord, s.wordAt_freeSlots, fun c cs => s.wordAt_headRecord,
    s.wordAt_probeNone, fun e => s.wordAt_probedEntry, ⟨s.wordAt_lastGrant, rfl, rfl⟩, fun t free => ?_, fun t r hr => ?_,
    s.wordAt_roster⟩
  · rw [s.wordAt_slot, State.slotWord, free]
  · rw [s.wordAt_slot, State.slotWord, hr]

end Sys2Proof.Machine

/-! # What a step can do to slots, records and request frames (R44 to R78)

`State.Acts` says once how a step touches the request table, the completion queue and the outbound request queue: every
command is made of these acts, and all else in it leaves the three as they are. The invariants of the records (O57) and
of the frames (O58) are then one small case for each act. -/

namespace Sys2Proof.Machine

/-- The acts of the request controller, each with the condition it is made under, one after another. -/
inductive State.Acts : State → State → Prop where
  | same {s x : State} (req : x.req = s.req) (requests : x.dlv.requests = s.dlv.requests) : Acts s x
  | trans {s x y : State} (first : Acts s x) (second : Acts x y) : Acts s y
  | response (s : State) (src : Station) (b : ResponseBody) : Acts s (s.applyResponse src b)
  | departs (s : State) (d : Station) (e : OutRequest) (oldest : oldestRequestTo d s.dlv.requests = some e) :
      Acts s ((s.withDlv { s.dlv with requests := dropOldestRequest d s.dlv.requests }).requestDeparted e.body.tag
        e.body.isAcquire)
  | notTaken (s : State) (t : Tag) : Acts s (s.acquireNotTaken t)
  | cancels (s : State) (t : Tag) (cause : CancelCause) : Acts s (s.cancelSlot t cause)
  | opens (s : State) (t : Tag) (l : LockId) (m : LockMode) (w : WaitKind) (o : Origin) (home : Station)
      (timer : Option Nat) (free : s.slot t = none) (unused : s.slotForLock l = none) :
      Acts s (s.openSlot t l m w o home timer)
  | releases (s : State) (t : Tag) (r : SlotRecord) (u : Bool) (v : List Byte) (found : s.slot t = some r)
      (held : r.state = .held) : Acts s (s.releaseSlot t r u v)
  | pops (s : State) : Acts s s.popRecord
  | loses (s x : State) (affected : Station → Bool) (why : Reason) (req : x.req = s.req)
      (requests : x.dlv.requests = s.dlv.requests.filter (fun e => !affected e.destination)) :
      Acts s (x.loseSlots affected why)
  | resets {s x : State} (req : x.req = RequestController.empty) (requests : x.dlv.requests = []) : Acts s x

/-- An ACQUIRE is admitted to a FREE slot for a lock that has none (R46). -/
theorem State.admitAcquire_admits {s : State} {l : LockId} {t : Tag} {h : Station}
    (ok : s.admitAcquire l = .ok (t, h)) : s.slot t = none ∧ s.slotForLock l = none := by
  unfold State.admitAcquire at ok
  repeat' split at ok
  all_goals cases ok
  next unused _ found _ _ =>
    exact ⟨by simpa using List.find?_some found, by simpa using unused⟩

namespace State.Acts

variable {s x y : State}

theorem refl (s : State) : s.Acts s := .same rfl rfl

theorem ite {c : Prop} [Decidable c] (hx : s.Acts x) (hy : s.Acts y) : s.Acts (if c then x else y) := by
  split <;> assumption

/-- What leaves slots, records and request frames may follow. -/
theorem then_same (h : s.Acts x) (req : y.req = x.req) (requests : y.dlv.requests = x.dlv.requests) : s.Acts y :=
  h.trans (.same req requests)

/-- What leaves slots, records and request frames may come before. -/
theorem after_same (h : x.Acts y) (req : x.req = s.req) (requests : x.dlv.requests = s.dlv.requests) : s.Acts y :=
  .trans (.same req requests) h

theorem running {f : State → State} (h : s.Acts (f s)) : s.Acts (running s f) := (refl s).ite h

theorem portCycle {f : State → State} (h : ∀ a : State, a.Acts (f a)) : s.Acts (portCycle s f) :=
  (refl s).ite (after_same (h _) rfl rfl)

theorem onlyIf {c : Prop} [Decidable c] {f : State → State} (h : s.Acts (f s)) : s.Acts (onlyIf c s f) :=
  h.ite (refl s)

/-! ## Purges and the life cycle -/

theorem purge (p : Station) (c : PurgeCause) : s.Acts (s.purge p c) :=
  .loses s _ _ _ rfl (by simp [purgeHome, purgeRoster, purgeDelivery])

theorem enterLeaving : s.Acts s.enterLeaving :=
  .loses s _ _ _ rfl (by simp [leaveDelivery, ignoreAttempt])

theorem submitLeave : s.Acts s.submitLeave := by
  unfold State.submitLeave
  split
  · exact enterLeaving.then_same rfl rfl
  · exact .same rfl rfl

theorem powerOn (straps : Straps) (q : List Instr) : s.Acts (State.powerOn straps q) := .resets rfl rfl

/-! ## The bus access unit and the delivery unit -/

theorem chooseAndSend : s.Acts s.chooseAndSend := by
  unfold State.chooseAndSend
  repeat' split
  all_goals exact .same rfl rfl

theorem setPresenceDue : s.Acts s.setPresenceDue := (refl s).ite (.same rfl rfl)

theorem acceptStarted (d : Station) (f : StartedFrame) : s.Acts (s.acceptStarted d f) := by
  unfold State.acceptStarted
  exact .ite (.same rfl rfl) (.same rfl rfl)

/-- A started frame is accepted: a request departs (R120). -/
theorem frameAccepted (d : Station) (q : OutQueue) (f : StartedFrame) : s.Acts (s.frameAccepted d q f) := by
  have accepted := acceptStarted (s := s) d f
  have kept : (s.acceptStarted d f).dlv.requests = s.dlv.requests := by
    unfold State.acceptStarted
    dsimp only
    split <;> rfl
  cases q with
  | response => exact accepted.then_same rfl rfl
  | request =>
    unfold State.frameAccepted
    dsimp only
    split
    · exact accepted
    · next oldest => exact accepted.trans (.departs _ d _ (kept ▸ oldest))

/-- A started frame is answered BUSY or UNHEARD (R121). -/
theorem frameNotTaken (d : Station) (q : OutQueue) (a : LastAnswer) : s.Acts (s.frameNotTaken d q a) := by
  have held : s.Acts (s.setSend d { s.sendRecord d with lastAnswer := a, holdOff := some Config.holdOffBits }) :=
    .same rfl rfl
  have answered := (held.trans setPresenceDue).ite (c := a = .unheard) held
  unfold State.frameNotTaken
  dsimp only
  split
  · exact (answered.trans (.notTaken _ _)).ite answered
  · exact answered
  · exact answered

theorem frameUnanswered (d : Station) : s.Acts (s.frameUnanswered d) := by
  unfold State.frameUnanswered
  exact .ite (after_same (purge d .noAnswer) rfl rfl) (.same rfl rfl)

theorem addressedOutcome (d : Station) (q : OutQueue) (f : StartedFrame) (o : AttemptOutcome) :
    s.Acts (s.addressedOutcome d q f o) := by
  cases o with
  | answered r =>
    cases r with
    | accept => exact frameAccepted d q f
    | busy => exact frameNotTaken d q .busy
    | unheard => exact frameNotTaken d q .unheard
    | reject => exact purge d .disowned
  | noAnswer | collision => exact frameUnanswered d
  | broadcastSent => exact refl s

/-- The outcome of an attempt is applied (R120 to R125, R163). -/
theorem applyOutcome (a : Attempt) : s.Acts (s.applyOutcome a) := by
  unfold State.applyOutcome
  split
  · exact refl s
  · cases a.kind with
    | presence => exact setPresenceDue.ite (.same rfl rfl)
    | leave => exact .ite (.same rfl rfl) (.same rfl rfl)
    | addressed d q =>
      dsimp only
      split
      · exact addressedOutcome d q _ _
      · exact refl s

theorem endAttempt : s.Acts s.endAttempt := by
  unfold State.endAttempt
  split
  · exact refl s
  · exact after_same (applyOutcome _) rfl rfl

theorem closeWindow : s.Acts s.closeWindow := endAttempt.then_same rfl rfl

theorem readBack (bit : Nat) : s.Acts (s.readBack bit) := by
  have ack : s.Acts (s.ackMismatch bit) := .same (by simp) (by simp)
  unfold State.readBack
  split
  · unfold State.frameMismatch
    exact .ite (.ite (after_same endAttempt rfl rfl) (.same rfl rfl)) ack
  · exact ack

theorem beginAck : s.Acts s.beginAck := by
  unfold State.beginAck
  split
  · exact refl s
  · exact onlyIf (.same rfl rfl)

/-! ## The home steps -/

theorem routeResponse (e : OutResponse) : s.Acts (s.routeResponse e) := by
  unfold State.routeResponse
  exact .ite (.response s _ _) (.ite (.same rfl rfl) (refl s))

theorem routeResponses (es : List OutResponse) : s.Acts (s.routeResponses es) := by
  induction es generalizing s with
  | nil => exact refl s
  | cons e es ih => exact (routeResponse e).trans ih

theorem carryOut (inbound : List InboundRequest) (h : HomeStep) : s.Acts (s.carryOut inbound h) :=
  after_same (routeResponses h.responses) rfl rfl

theorem serveAcquire : s.Acts s.serveAcquire := by
  unfold State.serveAcquire
  refine (refl s).ite ?_
  split
  · exact carryOut _ _
  · exact refl s

theorem serveRelease : s.Acts s.serveRelease := by
  unfold State.serveRelease
  refine (refl s).ite ?_
  split
  · exact carryOut _ _
  · exact refl s

theorem serveCancel : s.Acts s.serveCancel := by
  unfold State.serveCancel
  refine (refl s).ite ?_
  split
  · exact carryOut _ _
  · exact refl s

theorem stepWalk : s.Acts s.stepWalk := by
  unfold State.stepWalk
  refine (refl s).ite ?_
  split
  · exact refl s
  · split
    · exact .same rfl rfl
    · exact (carryOut _ _).then_same rfl rfl

theorem moveLoopback : s.Acts s.moveLoopback := by
  unfold State.moveLoopback
  refine (refl s).ite ?_
  split
  · exact refl s
  · next e oldest =>
    have moved : s.Acts (s.withHome { s.home with
        inbound := s.home.inbound ++ [{ source := s.own, body := e.body }] }) := .same rfl rfl
    exact moved.trans (.departs _ s.own e oldest)

/-! ## Receipts -/

theorem takeFrame (p : Station) (f : Frame) : s.Acts (s.takeFrame p f) := by
  have synced : s.Acts (if f.sync then
      (s.setReceive p (some { sequence := f.sequence, sync := f.sync })).setPeer p
        { (s.setReceive p (some { sequence := f.sequence, sync := f.sync })).peer p with syncIn := false }
      else s.setReceive p (some { sequence := f.sequence, sync := f.sync })) := .ite (.same rfl rfl) (.same rfl rfl)
  unfold State.takeFrame
  refine (synced.then_same (y := State.dueAck _ p f .accept) rfl rfl).trans ?_
  cases f.body with
  | request r => exact .same rfl rfl
  | response r => exact .response _ p r
  | presence | leave | ack => exact refl _

theorem admitFrame (p : Station) (f : Frame) : s.Acts (s.admitFrame p f) := by
  unfold State.admitFrame
  split
  · exact .ite (.same rfl rfl) (takeFrame p f)
  · exact takeFrame p f
  all_goals exact refl s

theorem receiveChecks (p : Station) (f : Frame) : s.Acts (s.receiveChecks p f) := by
  have answered (r : AckResult) : s.Acts (s.dueAck p f r) := .same rfl rfl
  unfold State.receiveChecks
  cases (s.peer p).state with
  | unknown => exact answered .unheard
  | absent | mismatched => exact answered .reject
  | present =>
    exact (answered .reject).ite <| (answered .accept).ite <|
      ((purge p .disowned).trans (admitFrame p f)).ite (admitFrame p f)

theorem syncWaitNotice (p : Station) (w : Word) : s.Acts (s.syncWaitNotice p w) := (purge p .disowned).ite (refl s)

theorem presenceHeard (p : Station) (fresh : Bool) (e d w : Word) : s.Acts (s.presenceHeard p fresh e d w) := by
  have found : s.Acts (((s.setPeerState p .present).recordEpoch p e).syncWaitNotice p w) :=
    after_same (syncWaitNotice p w) rfl rfl
  have purged (c : PurgeCause) : s.Acts ((s.purge p c).recordEpoch p e) := (purge p c).then_same rfl rfl
  unfold State.presenceHeard
  refine .ite (.ite (.same rfl rfl) (purged _)) ?_
  cases (s.peer p).state with
  | unknown | absent | mismatched => exact found
  | present => exact .ite ((purged _).trans (syncWaitNotice p w)) (syncWaitNotice p w)

theorem leaveHeard (p : Station) : s.Acts (s.leaveHeard p) := by
  unfold State.leaveHeard
  cases (s.peer p).state with
  | present | unknown => exact purge p .left
  | mismatched => exact .same rfl rfl
  | absent => exact refl s

/-- A valid frame of a peer is handed on (R95). -/
theorem handOn (f : Frame) : s.Acts (s.handOn f) := by
  have checked : s.Acts (if f.addressee = some s.own then s.receiveChecks f.source f else s) :=
    (receiveChecks _ f).ite (refl s)
  have leaving : s.Acts (if f.addressee = some s.own then s.answerWhileLeaving f.source f else s) :=
    .ite (.same (by simp) (by simp)) (refl s)
  have ack (n : Byte) (r : AckResult) : s.Acts (s.ackReceived f n r) := .same (by simp) (by simp)
  unfold State.handOn
  cases s.ctl.state with
  | config => exact refl s
  | joining =>
    cases f.body with
    | presence | leave => exact .same rfl rfl
    | request | response | ack => exact refl s
  | online =>
    cases f.body with
    | request | response => exact checked
    | presence e d w => exact presenceHeard _ _ e d w
    | leave e => exact leaveHeard _
    | ack n r => exact ack n r
  | leaving =>
    cases f.body with
    | request | response => exact leaving
    | presence e d w => exact presenceHeard _ _ e d w
    | leave e => exact leaveHeard _
    | ack n r => exact ack n r

theorem fromSource (f : Frame) : s.Acts (s.fromSource f) :=
  .ite (.same rfl rfl) (after_same (handOn f) (by simp) (by simp))

theorem validFrame (f : Frame) : s.Acts (s.validFrame f) := by
  have ended : s.Acts ((s.arbitratedEnds f).fromSource f) := after_same (fromSource f) rfl rfl
  exact .ite (.ite (ended.then_same rfl rfl) ended) (fromSource f)

/-- A transmission is received (R90 to R95). -/
theorem receive (rx : Reception) : s.Acts (s.receive rx) := by
  unfold State.receive
  refine (refl s).ite ?_
  dsimp only
  split
  · exact .same (by simp) (by simp)
  · exact after_same (validFrame _) rfl rfl

/-! ## The port and the timers -/

theorem submitAcquire : s.Acts s.submitAcquire := by
  unfold State.submitAcquire
  refine .ite (.same rfl rfl) ?_
  split
  · split
    · exact .same rfl rfl
    · next admitted =>
      obtain ⟨free, unused⟩ := admitAcquire_admits admitted
      exact (Acts.opens s _ _ _ _ _ _ _ free unused).then_same rfl rfl
  · exact .same rfl rfl

theorem submitRelease : s.Acts s.submitRelease := by
  unfold State.submitRelease
  refine .ite (.same rfl rfl) ?_
  repeat' split
  case h_2.isTrue found held => exact (Acts.releases s _ _ _ _ found held).then_same rfl rfl
  all_goals exact .same rfl rfl

theorem submitCancel : s.Acts s.submitCancel := by
  unfold State.submitCancel
  refine .ite (.same rfl rfl) ?_
  repeat' split
  case h_2.isTrue => exact (Acts.cancels s _ _).then_same rfl rfl
  all_goals exact .same rfl rfl

theorem submit (v : Word) : s.Acts (s.submit v) := by
  unfold State.submit
  split
  · exact submitAcquire
  · exact submitRelease
  · exact submitCancel
  · exact .same (by simp) (by simp)
  · exact submitLeave
  · exact refl s

theorem acquireByWindow (m : LockMode) (l : LockId) : s.Acts (s.acquireByWindow m l) := by
  unfold State.acquireByWindow
  refine .ite (.same rfl rfl) ?_
  split
  · exact .same rfl rfl
  · next admitted =>
    obtain ⟨free, unused⟩ := admitAcquire_admits admitted
    exact (Acts.opens s _ _ _ _ _ _ _ free unused).then_same rfl rfl

theorem releaseByWindow (l : LockId) : s.Acts (s.releaseByWindow l) := by
  unfold State.releaseByWindow
  repeat' split
  case h_2.isTrue found held => exact .releases s _ _ _ _ found held
  all_goals exact refl s

theorem windowLimit : s.Acts s.windowLimit := by
  unfold State.windowLimit
  split
  · exact refl s
  · exact after_same (.cancels _ _ _) (by simp) (by simp)

theorem withdrawStrobe : s.Acts s.withdrawStrobe := by
  unfold State.withdrawStrobe
  split
  · exact .same rfl rfl
  · exact after_same (.cancels _ _ _) rfl rfl

/-- A port write, at whatever address (R168). -/
theorem writeWord (a : PortAddr) (v : Word) : s.Acts (s.writeWord a v) := by
  have config (f : ConfigBlock → ConfigBlock) : s.Acts (s.writeConfig f) := .same (by simp) (by simp)
  exact .ite (.same rfl rfl) <| .ite (config _) <| .ite (config _) <| .ite (config _) <| .ite (config _) <|
    .ite (config _) <| .ite (config _) <| .ite (.same rfl rfl) <| .ite (submit v) <| .ite (.pops s) <|
    .ite (.same rfl rfl) <| .ite (releaseByWindow _) (refl s)

theorem slotTimeout (t : Tag) : s.Acts (s.slotTimeout t) := by
  unfold State.slotTimeout
  split
  · exact refl s
  · exact onlyIf (.cancels s t _)

theorem silenceTimeout (p : Station) : s.Acts (s.silenceTimeout p) := by
  have stopped : s.Acts (s.setPeer p { s.peer p with silenceTimer := none }) := .same rfl rfl
  refine onlyIf (stopped.trans ?_)
  unfold State.peerSilent
  split
  · exact purge p .silence
  · exact purge p .silence
  · exact .same rfl rfl
  · exact refl _

/-! ## Every command -/

/-- Every command is made of these acts. -/
theorem of_exec (i : Instr) (done : Machine.exec i s = .next x) : s.Acts x := by
  cases i <;> cases done
  case acquire => exact portCycle fun _ => submitAcquire
  case release => exact portCycle fun _ => submitRelease
  case cancel => exact portCycle fun _ => submitCancel
  case start => exact portCycle fun _ => .same (by simp) (by simp)
  case leave => exact portCycle fun _ => submitLeave
  case pop => exact portCycle .pops
  case interruptEnable => exact portCycle fun _ => .same rfl rfl
  case registerWrite a v => exact portCycle fun _ => writeWord a v
  case acquireWindowRead m l => exact portCycle fun _ => acquireByWindow m l
  case releaseWindowWrite l v => exact portCycle fun _ => releaseByWindow l
  case readStrobeWithdrawal => exact running withdrawStrobe
  case windowWaitLimitExpiry => exact running windowLimit
  case powerOnReset straps => exact powerOn straps _
  case portReset => exact .resets rfl rfl
  case portResetRelease => exact onlyIf (.same rfl rfl)
  case slotTimerExpiry t => exact running (slotTimeout t)
  case acquireAtHome => exact running serveAcquire
  case releaseAtHome => exact running serveRelease
  case cancelAtHome => exact running serveCancel
  case walkStep => exact running stepWalk
  case loopbackMove => exact running moveLoopback
  case sendingOpportunity => exact running (onlyIf (after_same chooseAndSend rfl rfl))
  case readBackMismatch bit => exact running (readBack bit)
  case ownTransmissionEnd => exact running (.same (by simp) (by simp))
  case windowClose => exact running (onlyIf closeWindow)
  case ackTransmission => exact running beginAck
  case holdOffExpiry => exact running (onlyIf (.same rfl rfl))
  case startupLineIdle => exact running (onlyIf (.same rfl rfl))
  case requestFrameReceipt => exact running (receive _)
  case responseFrameReceipt => exact running (receive _)
  case presenceReceipt => exact running (receive _)
  case leaveFrameReceipt => exact running (receive _)
  case ackReceipt => exact running (receive _)
  case malformedFrame => exact running (receive _)
  case presenceTimerExpiry => exact running (onlyIf (setPresenceDue.then_same rfl rfl))
  case silenceTimerExpiry p => exact running (silenceTimeout p)
  case listenTimerExpiry => exact running (onlyIf (.same rfl rfl))
  case leavingTimerExpiry => exact running (onlyIf (.same rfl rfl))
  case transmissionBegin => exact running (onlyIf (.same rfl rfl))

/-- Every step is made of these acts. -/
theorem of_step (done : Machine.step s = .next x) : s.Acts x := by
  unfold Machine.step at done
  split at done
  · cases done
    exact refl s
  · exact after_same (of_exec _ done) rfl rfl

end State.Acts
end Sys2Proof.Machine

/-! # Slots and records (R44, R73, R74): O57

`State.RecordsLawful` is the invariant of RecordInvKept with its parts named; each act keeps it. -/

namespace Sys2Proof.Machine

/-- The records pending are within the bound of the slot's state, and it has a hold in the states of one (R44, R74). -/
structure SlotRecord.RecordsFit (r : SlotRecord) : Prop where
  bound : r.recordsPending ≤ r.state.mostRecords
  hold : r.holdFits = true

/-- Each slot's records pending are its records in the completion queue, and fit its state (R44, R73, R74). -/
structure State.RecordsLawful (s : State) : Prop where
  count : ∀ t, s.recordsOf t = s.recordsPendingOf t
  fits : ∀ t r, s.slot t = some r → r.RecordsFit

namespace State

/-- The invariant is the one the statement names. -/
theorem recordsLawful_iff (s : State) : s.RecordsLawful ↔ RecordInv s := by
  have fits (t : Tag) : (∀ r, s.slot t = some r → r.RecordsFit) ↔
      s.slotIs t (fun r => decide (r.recordsPending ≤ r.state.mostRecords) && r.holdFits) = true := by
    rw [slotIs_iff]
    refine forall₂_congr fun r _ => ⟨fun ⟨bound, hold⟩ => ?_, fun both => ?_⟩
    · simp [bound, hold]
    · obtain ⟨bound, hold⟩ := Bool.and_eq_true_iff.mp both
      exact ⟨of_decide_eq_true bound, hold⟩
  exact ⟨fun ⟨count, slots⟩ t => ⟨count t, (fits t).mp (slots t)⟩,
    fun inv => ⟨fun t => (inv t).1, fun t => (fits t).mpr (inv t).2⟩⟩

theorem recordsPendingOf_some {s : State} {t : Tag} {r : SlotRecord} (h : s.slot t = some r) :
    s.recordsPendingOf t = r.recordsPending := by
  simp [recordsPendingOf, h]

theorem recordsPendingOf_free {s : State} {t : Tag} (h : s.slot t = none) : s.recordsPendingOf t = 0 := by
  simp [recordsPendingOf, h]

/-- The records of one slot in a queue. -/
theorem recordsOf_eq (s : State) (t : Tag) :
    s.recordsOf t = (s.req.completions.filter (fun c => decide (c.slot = t))).length := rfl

/-- The queue holds the records of the 32 slots. -/
theorem length_completions (s : State) : s.req.completions.length = ∑ t : Tag, s.recordsOf t := by
  have all : ∑ t : Tag, Multiset.count t (s.req.completions.map CompletionRecord.slot : Multiset Tag) =
      s.req.completions.length := by
    rw [Multiset.sum_count_eq_card fun t _ => Finset.mem_univ t]
    simp
  rw [← all]
  refine Finset.sum_congr rfl fun t _ => ?_
  rw [recordsOf_eq, Multiset.coe_count, List.count, List.countP_map, List.countP_eq_length_filter]
  rfl

end State

/-- No state allows a slot more than two records (R74). -/
theorem SlotState.mostRecords_le (x : SlotState) : x.mostRecords ≤ 2 := by
  cases x <;> decide

/-- An open slot has room for the record it finishes with (R74). -/
theorem SlotState.mostRecords_open {x : SlotState} (h : x ≠ .done) : x.mostRecords ≤ 1 := by
  cases x <;> simp_all [mostRecords]

namespace SlotRecord

/-- A slot that finishes without a record is FREE or keeps its records (R77). -/
theorem finished_records (r : SlotRecord) (stands : Bool) :
    (r.finished stands).elim 0 recordsPending = r.recordsPending := by
  unfold finished
  split
  · next free => exact free.1.symm
  · rfl

/-- A slot that is settled is FREE without a record, or keeps its records (R77). -/
theorem settled_records (r : SlotRecord) (stands : Bool) :
    (r.settled stands).elim 0 recordsPending = r.recordsPending := by
  unfold settled
  split
  · next free => exact free.2.1.symm
  · rfl

/-- A slot that is lost has the LOST record pending beside its others (R69 to R71). -/
theorem lose_records (r : SlotRecord) (t : Tag) (why : Reason) (stands : Bool) :
    (r.lose t why stands).elim 0 recordsPending = r.recordsPending + (r.lostRecord t why).toList.length := by
  unfold lose
  split
  · rw [finished_records]
    rfl
  · next done =>
    have state : r.state = .done := by simpa [isOpen] using done
    have quiet : r.lostRecord t why = none := by
      unfold lostRecord
      cases r.origin <;> simp [state]
    rw [settled_records, quiet]
    rfl

end SlotRecord

namespace SlotRecord.RecordsFit

variable {a b : SlotRecord}

/-- A slot that has not been granted has no record and no hold. -/
theorem of_waits (h : a.RecordsFit) (waits : a.state = .pending ∨ a.state = .waiting ∨ a.state = .cancelling) :
    a.recordsPending = 0 ∧ a.hold = none := by
  obtain ⟨bound, hold⟩ := h
  rcases waits with state | state | state <;>
    simpa [holdFits, SlotState.mostRecords, state] using And.intro bound hold

/-- What fits a state fits another with as many records and the same need of a hold. -/
theorem of_state (h : a.RecordsFit) (records : b.recordsPending = a.recordsPending) (hold : b.hold = a.hold)
    (bound : a.state.mostRecords ≤ b.state.mostRecords)
    (needs : (b.state = .held ∨ b.state = .releasing) ↔ (a.state = .held ∨ a.state = .releasing)) : b.RecordsFit where
  bound := records ▸ h.bound.trans bound
  hold := by
    have before := h.hold
    simp only [holdFits, decide_eq_true_eq] at before ⊢
    rw [hold, before, needs]

/-- A DONE slot holds nothing, and two records at most. -/
theorem of_done (state : a.state = .done) (records : a.recordsPending ≤ 2) (hold : a.hold = none) : a.RecordsFit where
  bound := by simpa [state, SlotState.mostRecords] using records
  hold := by simp [holdFits, state, hold]

/-- What fits still fits with fewer records. -/
theorem fewer (h : a.RecordsFit) {n : Nat} (le : n ≤ a.recordsPending) :
    ({ a with recordsPending := n } : SlotRecord).RecordsFit :=
  ⟨le.trans h.bound, h.hold⟩

theorem of_finished {stands : Bool} (finished : a.finished stands = some b) (records : a.recordsPending ≤ 2) :
    b.RecordsFit := by
  unfold SlotRecord.finished at finished
  split at finished <;> cases finished
  exact of_done rfl records rfl

theorem of_settled (h : a.RecordsFit) {stands : Bool} (settled : a.settled stands = some b) : b.RecordsFit := by
  unfold SlotRecord.settled at settled
  split at settled <;> cases settled
  exact h

/-- An open slot that fits has room for the record it finishes with (R74). -/
theorem room (h : a.RecordsFit) (isOpen : a.state ≠ .done) (rec : Option CompletionRecord) :
    a.recordsPending + rec.toList.length ≤ 2 := by
  have one := h.bound.trans (SlotState.mostRecords_open isOpen)
  cases rec <;> simp only [Option.toList_none, Option.toList_some, List.length_nil, List.length_singleton] <;> omega

theorem of_lose (h : a.RecordsFit) {t : Tag} {why : Reason} {stands : Bool} (lost : a.lose t why stands = some b) :
    b.RecordsFit := by
  unfold SlotRecord.lose at lost
  split at lost
  · next isOpen => exact of_finished lost (h.room (by simpa [SlotRecord.isOpen] using isOpen) _)
  · exact h.of_settled lost

end SlotRecord.RecordsFit

namespace State.RecordsLawful

variable {s x : State}

/-- The queue holds two records of a slot at most (R74). -/
theorem bounded (h : s.RecordsLawful) : s.req.completions.length ≤ 64 := by
  have two (t : Tag) : s.recordsOf t ≤ 2 := by
    rw [h.count]
    cases hr : s.slot t with
    | none => simp [recordsPendingOf_free hr]
    | some r => rw [recordsPendingOf_some hr]; exact (h.fits t r hr).bound.trans r.state.mostRecords_le
  rw [s.length_completions]
  exact (Finset.sum_le_card_nsmul _ _ 2 fun t _ => two t).trans (by simp)

/-- A slot is replaced, and with it the records of this slot in the queue. -/
theorem replaceSlot (h : s.RecordsLawful) (t : Tag) (o : Option SlotRecord)
    (slots : x.req.slots = vset s.req.slots t o) (others : ∀ u, t ≠ u → x.recordsOf u = s.recordsOf u)
    (own : x.recordsOf t = o.elim 0 SlotRecord.recordsPending) (fits : ∀ r, o = some r → r.RecordsFit) :
    x.RecordsLawful := by
  have slot (u : Tag) : x.slot u = if t = u then o else s.slot u := by
    rw [State.slot, slots, vset_get]
    rfl
  constructor
  · intro u
    rw [recordsPendingOf, slot]
    by_cases same : t = u
    · rw [← same, own, if_pos rfl]
      cases o <;> rfl
    · rw [if_neg same, others u same, h.count]
      rfl
  · intro u r hr
    rw [slot] at hr
    split at hr
    · exact fits r hr
    · exact h.fits u r hr

/-- A slot is replaced, and records of it posted: its count follows. -/
theorem setSlot (h : s.RecordsLawful) (t : Tag) (o : Option SlotRecord) (posted : List CompletionRecord)
    (req : x.req = { slots := vset s.req.slots t o, completions := s.req.completions ++ posted })
    (mine : ∀ c ∈ posted, c.slot = t)
    (count : o.elim 0 SlotRecord.recordsPending = s.recordsPendingOf t + posted.length)
    (fits : ∀ r, o = some r → r.RecordsFit) : x.RecordsLawful := by
  have records (u : Tag) :
      x.recordsOf u = s.recordsOf u + (posted.filter (fun c => decide (c.slot = u))).length := by
    rw [recordsOf_eq, req, List.filter_append, List.length_append]
    rfl
  refine h.replaceSlot t o (by rw [req]) (fun u other => ?_) ?_ fits
  · rw [records, List.filter_eq_nil_iff.mpr fun c hc => by simpa [mine c hc] using other]
    rfl
  · rw [records, h.count, count, List.filter_eq_self.mpr fun c hc => by simpa using mine c hc]

/-- Kept by what leaves the request controller as it is. -/
theorem of_req (h : s.RecordsLawful) (req : x.req = s.req) : x.RecordsLawful where
  count t := by rw [recordsOf_eq, recordsPendingOf, slot_of_req req, req]; exact h.count t
  fits t r hr := h.fits t r (slot_of_req req t ▸ hr)

/-- Kept by a slot that stays, with as many records, in a state that they fit. -/
theorem keepSlot (h : s.RecordsLawful) (t : Tag) (r a : SlotRecord) (hr : s.slot t = some r)
    (records : a.recordsPending = r.recordsPending) (fits : a.RecordsFit)
    (req : x.req = { s.req with slots := vset s.req.slots t (some a) }) : x.RecordsLawful :=
  h.setSlot t (some a) [] (by rw [req, List.append_nil]) (by simp)
    (by simp [records, recordsPendingOf_some hr]) (by rintro _ ⟨⟩; exact fits)

/-- Kept by a slot that sends a frame, or owes it. -/
theorem sendOrOwe (h : s.RecordsLawful) (t : Tag) (r a : SlotRecord) (b : RequestBody) (hr : s.slot t = some r)
    (records : a.recordsPending = r.recordsPending) (fits : a.RecordsFit) : (s.sendOrOwe t a b).RecordsLawful := by
  have owing : ({ a with owed := some b } : SlotRecord).RecordsFit := ⟨fits.bound, fits.hold⟩
  unfold State.sendOrOwe
  split
  · exact h.keepSlot t r { a with owed := some b } hr records owing rfl
  · exact h.keepSlot t r a hr records fits rfl

/-- An open slot finishes, with a record or without (R73, R77). -/
theorem finishSlot (h : s.RecordsLawful) (t : Tag) (r a : SlotRecord) (rec : Option CompletionRecord)
    (hr : s.slot t = some r) (isOpen : r.state ≠ .done) (records : a.recordsPending = r.recordsPending)
    (mine : ∀ c, rec = some c → c.slot = t) : (s.finishSlot t a rec).RecordsLawful := by
  have room : a.recordsPending + rec.toList.length ≤ 2 := records ▸ (h.fits t r hr).room isOpen rec
  refine h.setSlot t ((a.counting rec).finished (frameStands t s.dlv.requests)) rec.toList rfl (by simpa using mine)
    ?_ fun b finished => .of_finished finished room
  rw [SlotRecord.finished_records, recordsPendingOf_some hr, ← records]
  rfl

/-! ## The acts -/

/-- A GRANT of a slot that awaits it (R54). -/
theorem applyGrant (h : s.RecordsLawful) (t : Tag) (r : SlotRecord) (g : Word) (v : List Byte)
    (hr : s.slot t = some r) (awaits : r.state = .pending ∨ r.state = .waiting) :
    (s.applyGrant t r g v).RecordsLawful := by
  obtain ⟨records, -⟩ := (h.fits t r hr).of_waits (awaits.imp id .inl)
  have held (n : Nat) (one : n ≤ 1) : ({ r with
      state := .held, timer := none, hold := some ⟨g, v⟩, recordsPending := n } : SlotRecord).RecordsFit :=
    ⟨one, by simp [SlotRecord.holdFits]⟩
  unfold State.applyGrant
  dsimp only
  split
  · exact h.setSlot t _ [_] rfl (by simp [SlotRecord.toRecord])
      (by simp [SlotRecord.counting, recordsPendingOf_some hr])
      (by rintro _ ⟨⟩; exact held _ (by simp [records]))
  · have granted := h.keepSlot t r { r with state := .held, timer := none, hold := some ⟨g, v⟩ } hr rfl
      (held r.recordsPending (by omega)) (x := s.setSlot t _) rfl
    exact granted.of_req (by simp)

/-- A DENY of an open slot (R55). -/
theorem applyDeny (h : s.RecordsLawful) (t : Tag) (r : SlotRecord) (why : DenyReason) (hr : s.slot t = some r)
    (isOpen : r.state ≠ .done) : (s.applyDeny t r why).RecordsLawful := by
  unfold State.applyDeny
  split
  · exact h.finishSlot t r r _ hr isOpen rfl (by rintro _ ⟨⟩; rfl)
  · exact (h.finishSlot t r r none hr isOpen rfl (by simp)).of_req (by simp)

/-- A slot that has not been granted goes to CANCELLING (R61, R64). -/
theorem cancelling_fits (h : s.RecordsLawful) (t : Tag) (r a : SlotRecord) (hr : s.slot t = some r)
    (awaits : r.state = .pending ∨ r.state = .waiting) (state : a.state = .cancelling)
    (records : a.recordsPending = r.recordsPending) (hold : a.hold = r.hold) : a.RecordsFit :=
  (h.fits t r hr).of_state records hold (by rcases awaits with before | before <;> simp [before, state,
    SlotState.mostRecords]) (by rcases awaits with before | before <;> simp [before, state])

/-- A record that a release or a cancel ends with names its slot. -/
theorem slot_of_releasedRecord {t : Tag} {r : SlotRecord} {o : ReleasedOutcome} {c : CompletionRecord}
    (h : releasedRecord t r o = some c) : c.slot = t := by
  unfold releasedRecord at h
  split at h <;> cases h <;> rfl

theorem slot_of_cancelRecord {t : Tag} {r : SlotRecord} {why : Reason} {c : CompletionRecord}
    (h : cancelRecord t r why = some c) : c.slot = t := by
  unfold cancelRecord at h
  split at h <;> cases h <;> rfl

/-- A response is applied, or discarded (R53 to R58). -/
theorem applyResponse (h : s.RecordsLawful) (src : Station) (b : ResponseBody) :
    (s.applyResponse src b).RecordsLawful := by
  unfold State.applyResponse
  split
  · exact h
  · next r hr =>
    split
    · exact h
    · have marked (state : r.state = .pending) : (s.applyToMarked b.tag r).RecordsLawful :=
        h.sendOrOwe _ r _ _ hr rfl (h.cancelling_fits _ r _ hr (.inl state) rfl rfl rfl)
      split
      · split
        · next state => exact h.applyGrant _ r _ _ hr (.inr state)
        · next state =>
          split
          · exact marked state
          · exact h.applyGrant _ r _ _ hr (.inl state)
        all_goals exact h
      · split
        · next state => exact h.applyDeny _ r _ hr (by simp [state])
        · next state =>
          split
          · exact marked state
          · exact h.applyDeny _ r _ hr (by simp [state])
        all_goals exact h
      · split
        · next state => exact h.finishSlot _ r r _ hr (by simp [state]) rfl fun _ => slot_of_releasedRecord
        all_goals exact h
      · split
        · next state => exact h.finishSlot _ r r _ hr (by simp [state]) rfl fun _ => slot_of_cancelRecord
        all_goals exact h

/-- A slot is settled: its records stay (R77). -/
theorem settleSlot (h : s.RecordsLawful) (t : Tag) (r : SlotRecord) (stands : Bool) (hr : s.slot t = some r) :
    (s.setSlot t (r.settled stands)).RecordsLawful := by
  refine h.setSlot t (r.settled stands) [] (by simp [State.setSlot]) (by simp) ?_ fun _ => (h.fits t r hr).of_settled
  rw [SlotRecord.settled_records, recordsPendingOf_some hr]
  rfl

/-- An owed frame is appended (R50). -/
theorem sendOwed (h : s.RecordsLawful) (t : Tag) (r : SlotRecord) (hr : s.slot t = some r) :
    (s.sendOwed t r).RecordsLawful := by
  have fits := h.fits t r hr
  unfold State.sendOwed
  split
  · exact h
  · exact h.keepSlot t r { r with owed := none } hr rfl ⟨fits.bound, fits.hold⟩ rfl

/-- A frame of a slot has left the queue (R51, R64, R77). -/
theorem requestDeparted (h : s.RecordsLawful) (t : Tag) (isAcquire : Bool) :
    (s.requestDeparted t isAcquire).RecordsLawful := by
  unfold State.requestDeparted
  split
  · exact h
  · next r hr =>
    split
    · next state =>
      split
      · exact h
      · split
        · exact h.sendOrOwe t r _ _ hr rfl (h.cancelling_fits t r _ hr (.inl state) rfl rfl rfl)
        · exact h.keepSlot t r { r with state := .waiting } hr rfl ((h.fits t r hr).of_state rfl rfl
            (by simp [state, SlotState.mostRecords]) (by simp [state])) rfl
    · exact h.settleSlot t r _ hr
    all_goals exact h.sendOwed t r hr

/-- The ACQUIRE frame of an open slot is withdrawn, and the slot finishes (R61, R127). -/
theorem withdrawAndFinish (h : s.RecordsLawful) (t : Tag) (r a : SlotRecord) (e : OutRequest) (hr : s.slot t = some r)
    (isOpen : r.state ≠ .done) (records : a.recordsPending = r.recordsPending) :
    (s.withdrawAndFinish t a e).RecordsLawful :=
  finishSlot (h.of_req (by simp)) t r a _ ((slot_of_req (by simp) t).trans hr) isOpen records
    fun _ => slot_of_cancelRecord

theorem acquireNotTaken (h : s.RecordsLawful) (t : Tag) : (s.acquireNotTaken t).RecordsLawful := by
  unfold State.acquireNotTaken
  split
  · next r e hr _ =>
    split
    · next marked => exact h.withdrawAndFinish t r r e hr (by simp [marked.1]) rfl
    · exact h
  all_goals exact h

/-- A cancel is made (R61, R63). -/
theorem cancelSlot (h : s.RecordsLawful) (t : Tag) (cause : CancelCause) : (s.cancelSlot t cause).RecordsLawful := by
  unfold State.cancelSlot
  split
  · exact h
  · next r hr =>
    have fits := h.fits t r hr
    dsimp only
    split
    · next state =>
      have marked :
          (s.setSlot t (some { r with cancelCause := cause, timer := none, mark := true })).RecordsLawful :=
        h.keepSlot t r { r with cancelCause := cause, timer := none, mark := true } hr rfl ⟨fits.bound, fits.hold⟩ rfl
      split
      · exact h
      · split
        · split
          · exact h.withdrawAndFinish t r _ _ hr (by simp [state]) rfl
          · exact marked
        · exact marked
    · next state => exact h.sendOrOwe t r _ _ hr rfl (h.cancelling_fits t r _ hr (.inr state) rfl rfl rfl)
    all_goals exact h

/-- A FREE slot opens (R47, R48). -/
theorem openSlot (h : s.RecordsLawful) (t : Tag) (l : LockId) (m : LockMode) (w : WaitKind) (o : Origin)
    (home : Station) (timer : Option Nat) (free : s.slot t = none) :
    (s.openSlot t l m w o home timer).RecordsLawful :=
  h.setSlot t (some _) [] (by rw [List.append_nil]; rfl) (by simp) (by simp [recordsPendingOf_free free])
    (by rintro _ ⟨⟩; exact ⟨le_refl _, by simp [SlotRecord.holdFits]⟩)

/-- The release of a HELD slot is taken (R59, R60). -/
theorem releaseSlot (h : s.RecordsLawful) (t : Tag) (r : SlotRecord) (u : Bool) (v : List Byte)
    (hr : s.slot t = some r) (held : r.state = .held) : (s.releaseSlot t r u v).RecordsLawful :=
  h.sendOrOwe t r _ _ hr rfl ((h.fits t r hr).of_state rfl rfl (by simp [held, SlotState.mostRecords])
    (by simp [held]))

/-- The head of the completion queue is popped (R76, R77). -/
theorem popRecord (h : s.RecordsLawful) : s.popRecord.RecordsLawful := by
  unfold State.popRecord
  split
  · exact h
  · next c cs queue =>
    have records (u : Tag) : s.recordsOf u = (cs.filter (fun a => decide (a.slot = u))).length +
        if c.slot = u then 1 else 0 := by
      rw [recordsOf_eq, queue, List.filter_cons]
      by_cases mine : c.slot = u <;> simp [mine]
    dsimp only
    split
    · next free =>
      have none := (h.count c.slot).trans (recordsPendingOf_free free)
      simp [records] at none
    · next r hr =>
      have one := (h.count c.slot).trans (recordsPendingOf_some hr)
      refine h.replaceSlot c.slot _ rfl (fun u other => ?_) ?_
        fun _ => ((h.fits _ r hr).fewer (Nat.sub_le _ 1)).of_settled
      · rw [records, if_neg other]
        rfl
      · rw [SlotRecord.settled_records, ← one, records, if_pos rfl]
        rfl

/-- Every affected slot is lost (R69 to R71). -/
theorem loseSlots (h : s.RecordsLawful) (affected : Station → Bool) (why : Reason) :
    (s.loseSlots affected why).RecordsLawful := by
  obtain ⟨lost, queue, each⟩ := s.loseSlots_completions affected why
  constructor
  · intro u
    rw [recordsOf_eq, queue, List.filter_append, List.length_append, each, ← recordsOf_eq, h.count,
      ← lostRecord_toList, recordsPendingOf, recordsPendingOf, slot_loseSlots]
    cases hr : s.slot u with
    | none => rfl
    | some r =>
      dsimp only
      split
      · rw [← r.lose_records u why (frameStands u s.dlv.requests)]
        cases r.lose u why (frameStands u s.dlv.requests) <;> rfl
      · rfl
  · intro u a ha
    rw [slot_loseSlots] at ha
    split at ha
    · next r hr =>
      split at ha
      · exact (h.fits u r hr).of_lose ha
      · exact Option.some.inj ha ▸ h.fits u r hr
    · cases ha

/-- Slots and records as a reset leaves them (R78). -/
theorem of_reset (req : s.req = RequestController.empty) : s.RecordsLawful where
  count t := by simp [recordsOf_eq, recordsPendingOf, State.slot, req, RequestController.empty, Vector.get]
  fits t r hr := by simp [State.slot, req, RequestController.empty, Vector.get] at hr

/-- Each act of the request controller keeps it. -/
theorem of_acts (h : s.RecordsLawful) (acts : s.Acts x) : x.RecordsLawful := by
  induction acts with
  | same req _ => exact h.of_req req
  | trans _ _ first second => exact second (first h)
  | response s src b => exact h.applyResponse src b
  | departs s d e _ =>
    have dropped : (s.withDlv { s.dlv with requests := dropOldestRequest d s.dlv.requests }).RecordsLawful :=
      h.of_req rfl
    exact dropped.requestDeparted _ _
  | notTaken s t => exact h.acquireNotTaken t
  | cancels s t cause => exact h.cancelSlot t cause
  | opens s t l m w o home timer free _ => exact h.openSlot t l m w o home timer free
  | releases s t r u v found held => exact h.releaseSlot t r u v found held
  | pops s => exact h.popRecord
  | loses s x affected why req _ => exact (h.of_req req).loseSlots affected why
  | resets req _ => exact of_reset req

end State.RecordsLawful

/-- Settles O57: the invariant with its parts named bounds the queue, and every act of a step keeps it. -/
theorem recordInvKept : Obligations.RecordInvKept := by
  intro s inv
  have lawful := s.recordsLawful_iff.mpr inv
  exact ⟨lawful.bounded, fun t done => t.recordsLawful_iff.mp (lawful.of_acts (.of_step done))⟩

end Sys2Proof.Machine

/-! # Frames of slots (R46, R50, R77): O58

`State.FramesLawful` is the invariant of FrameInvKept with its parts named; each act keeps it. Between the departure of
a frame and what its slot does about it the slot is excepted: `State.FramesLawfulBut`. -/

namespace Sys2Proof.Machine

/-- A frame of the slot stands exactly when one is in the queue (R50). -/
theorem frameStands_iff {t : Tag} {q : List OutRequest} : frameStands t q = true ↔ ∃ e ∈ q, e.body.tag = t := by
  simp [frameStands]

/-- No frame in a queue is of a slot of which none stands. -/
theorem tag_ne_of_stands_not {t : Tag} {q : List OutRequest} (gone : frameStands t q = false) {e : OutRequest}
    (he : e ∈ q) : e.body.tag ≠ t := fun tag => by
  simp [frameStands_iff.mpr ⟨e, he, tag⟩] at gone

/-- The oldest frame to a destination is dropped, and no other. -/
theorem dropOldestRequest_split {d : Station} {a b : List OutRequest} {e : OutRequest} (dest : e.destination = d)
    (before : ∀ x ∈ a, x.destination ≠ d) : dropOldestRequest d (a ++ e :: b) = a ++ b := by
  rw [dropOldestRequest, List.eraseP_append_right _ (by simpa using before)]
  exact congrArg _ (List.eraseP_cons_of_pos (by simp [dest]))

/-- The oldest frame to a destination is the first, and it alone is dropped. -/
theorem oldest_split {d : Station} {q : List OutRequest} {e : OutRequest} (h : oldestRequestTo d q = some e) :
    ∃ a b, q = a ++ e :: b ∧ dropOldestRequest d q = a ++ b := by
  obtain ⟨dest, a, b, rfl, before⟩ := List.find?_eq_some_iff_append.mp h
  exact ⟨a, b, rfl, dropOldestRequest_split (by simpa using dest) (by simpa using before)⟩

/-- What frames of a slot stand: its ACQUIRE while it is PENDING, some frame while it owes one, which belongs to its
state, and some frame when it is DONE with no record pending (R45, R50, R77). -/
structure SlotRecord.FramesFit (r : SlotRecord) (t : Tag) (q : List OutRequest) : Prop where
  acquire : r.state = .pending → ∃ e ∈ q, e.body.tag = t ∧ e.body.isAcquire = true
  owing : r.owed ≠ none → frameStands t q = true
  owed : ∀ b, r.owed = some b → b.tag = t ∧ b.lock = r.lock ∧ (r.state = .releasing ∨ r.state = .cancelling)
  done : r.state = .done → r.recordsPending = 0 → frameStands t q = true

namespace SlotRecord.FramesFit

variable {r : SlotRecord} {t : Tag} {q q' : List OutRequest}

/-- It is the condition the invariant names. -/
theorem iff : r.FramesFit t q ↔ r.framesFit t q = true := by
  have owed : r.owedFits t = true ↔
      ∀ b, r.owed = some b → b.tag = t ∧ b.lock = r.lock ∧ (r.state = .releasing ∨ r.state = .cancelling) := by
    unfold owedFits
    cases r.owed <;> simp
  have acquire : (decide (r.state ≠ .pending) || (acquireFrameOf t q).isSome) = true ↔
      (r.state = .pending → ∃ e ∈ q, e.body.tag = t ∧ e.body.isAcquire = true) := by
    simp [acquireFrameOf, List.find?_isSome, or_iff_not_imp_left]
  have owing : (r.owed.isNone || frameStands t q) = true ↔ (r.owed ≠ none → frameStands t q = true) := by
    cases r.owed <;> simp
  have done : (decide (r.state ≠ .done) || decide (r.recordsPending ≠ 0) || frameStands t q) = true ↔
      (r.state = .done → r.recordsPending = 0 → frameStands t q = true) := by
    simp [or_iff_not_imp_left]
  unfold framesFit
  rw [Bool.and_eq_true, Bool.and_eq_true, Bool.and_eq_true, acquire, owing, owed, done]
  exact ⟨fun ⟨a, b, c, d⟩ => ⟨⟨⟨a, b⟩, c⟩, d⟩, fun ⟨⟨⟨a, b⟩, c⟩, d⟩ => ⟨a, b, c, d⟩⟩

/-- Frames of other slots do not matter, nor does a further one of this slot. -/
theorem mono (h : r.FramesFit t q) (kept : ∀ e ∈ q, e.body.tag = t → e ∈ q') : r.FramesFit t q' := by
  have stands (s : frameStands t q = true) : frameStands t q' = true := by
    obtain ⟨e, he, tag⟩ := frameStands_iff.mp s
    exact frameStands_iff.mpr ⟨e, kept e he tag, tag⟩
  refine ⟨fun pending => ?_, fun owes => stands (h.owing owes), h.owed, fun done none => stands (h.done done none)⟩
  obtain ⟨e, he, tag, acquire⟩ := h.acquire pending
  exact ⟨e, kept e he tag, tag, acquire⟩

/-- A slot between its ACQUIRE and its end that owes nothing needs no frame. -/
theorem of_quiet (pending : r.state ≠ .pending) (owed : r.owed = none) (done : r.state ≠ .done) :
    r.FramesFit t q :=
  ⟨fun h => absurd h pending, fun h => absurd owed h, fun b h => by simp [owed] at h, fun h => absurd h done⟩

/-- A DONE slot owes nothing, and has a record or a frame left. -/
theorem of_done (done : r.state = .done) (owed : r.owed = none)
    (left : r.recordsPending = 0 → frameStands t q = true) : r.FramesFit t q :=
  ⟨fun h => by simp [done] at h, fun h => absurd owed h, fun b h => by simp [owed] at h, fun _ => left⟩

/-- Only a RELEASING or CANCELLING slot owes a frame (R50). -/
theorem owes_nothing (h : r.FramesFit t q) (releasing : r.state ≠ .releasing) (cancelling : r.state ≠ .cancelling) :
    r.owed = none := by
  cases owed : r.owed with
  | none => rfl
  | some b =>
    obtain ⟨-, -, state⟩ := h.owed b owed
    exact absurd state (not_or.mpr ⟨releasing, cancelling⟩)

/-- A slot that is lost or settled needs what the queue then holds (R69 to R71, R77). -/
theorem of_lose {a : SlotRecord} {why : Reason} (h : r.FramesFit t q')
    (lost : r.lose t why (frameStands t q) = some a) : a.FramesFit t q := by
  unfold SlotRecord.lose at lost
  split at lost
  · unfold SlotRecord.finished at lost
    split at lost <;> cases lost
    next left => exact .of_done rfl rfl fun none => Bool.of_not_eq_false fun gone => left ⟨none, gone⟩
  · next done =>
    have state : r.state = .done := by simpa [isOpen] using done
    unfold SlotRecord.settled at lost
    split at lost <;> cases lost
    next left =>
      exact .of_done state (h.owes_nothing (by simp [state]) (by simp [state]))
        fun none => Bool.of_not_eq_false fun gone => left ⟨state, none, gone⟩

end SlotRecord.FramesFit

/-- A slot that is lost is for the lock it was for. -/
theorem SlotRecord.lock_of_lose {r a : SlotRecord} {t : Tag} {why : Reason} {stands : Bool}
    (lost : r.lose t why stands = some a) : a.lock = r.lock := by
  unfold SlotRecord.lose at lost
  split at lost
  · unfold SlotRecord.finished at lost
    split at lost <;> cases lost
    rfl
  · unfold SlotRecord.settled at lost
    split at lost <;> cases lost
    rfl

/-- The invariant of the frames with one slot, if any, excepted from what should stand of it (R46, R50). -/
structure State.FramesLawfulBut (s : State) (but : Option Tag) : Prop where
  one : (s.dlv.requests.map (fun e => e.body.tag)).Nodup
  home : ∀ e ∈ s.dlv.requests, ∃ r, s.slot e.body.tag = some r ∧ r.home = e.destination ∧ r.lock = e.body.lock
  locks : ∀ t u a b, s.slot t = some a → s.slot u = some b → a.lock = b.lock → t = u
  fits : ∀ t r, but ≠ some t → s.slot t = some r → r.FramesFit t s.dlv.requests

/-- The invariant of the frames. -/
abbrev State.FramesLawful (s : State) : Prop := s.FramesLawfulBut none

namespace State

/-- The invariant is the one the statement names. -/
theorem framesLawful_iff (s : State) : s.FramesLawful ↔ FrameInv s := by
  have home (e : OutRequest) :
      (∃ r, s.slot e.body.tag = some r ∧ r.home = e.destination ∧ r.lock = e.body.lock) ↔
        (s.slot e.body.tag).map (fun r => (r.home, r.lock)) = some (e.destination, e.body.lock) := by
    simp
  have fits : (∀ t r, none ≠ some t → s.slot t = some r → r.FramesFit t s.dlv.requests) ↔
      ∀ t, s.slotIs t (fun r => r.framesFit t s.dlv.requests) = true := by
    simp [slotIs_iff, SlotRecord.FramesFit.iff]
  have locks : (∀ t u a b, s.slot t = some a → s.slot u = some b → a.lock = b.lock → t = u) ↔
      ∀ t u, t ≠ u → (s.slot t).map SlotRecord.lock = (s.slot u).map SlotRecord.lock → s.slot t = none := by
    refine forall₂_congr fun t u => ⟨fun h other same => ?_, fun h a b ha hb same => ?_⟩
    · cases ha : s.slot t with
      | none => rfl
      | some a =>
        obtain ⟨b, hb, lock⟩ := Option.map_eq_some_iff.mp (same.symm.trans (congrArg _ ha))
        exact absurd (h a b ha hb lock.symm) other
    · by_contra other
      exact absurd (h other (by rw [ha, hb, Option.map_some, Option.map_some, same])) (by simp [ha])
  refine ⟨fun ⟨one, frames, slots, fit⟩ => ?_, fun ⟨one, frames, fit, slots⟩ => ?_⟩
  · exact ⟨one, fun e he => (home e).mp (frames e he), fits.mp fit, locks.mp slots⟩
  · exact ⟨one, fun e he => (home e).mpr (frames e he), locks.mpr slots, fits.mpr fit⟩

namespace FramesLawfulBut

variable {s x : State} {but : Option Tag} {t : Tag} {r : SlotRecord}

/-! ## One slot and its frames -/

/-- Kept by what leaves slots and request frames as they are. -/
theorem of_same (h : s.FramesLawfulBut but) (slots : x.req.slots = s.req.slots)
    (requests : x.dlv.requests = s.dlv.requests) : x.FramesLawfulBut but := by
  have slot (t : Tag) : x.slot t = s.slot t := by rw [State.slot, slots, State.slot]
  exact ⟨requests ▸ h.one, fun e he => by rw [slot]; exact h.home e (requests ▸ he),
    fun t u a b ha hb => h.locks t u a b (slot t ▸ ha) (slot u ▸ hb),
    fun t r other hr => requests ▸ h.fits t r other (slot t ▸ hr)⟩

/-- One slot may be excepted. -/
theorem except (h : s.FramesLawful) (t : Tag) : s.FramesLawfulBut (some t) :=
  ⟨h.one, h.home, h.locks, fun u r _ => h.fits u r (by simp)⟩

/-- The slot excepted is lawful too. -/
theorem settle (h : s.FramesLawfulBut (some t)) (fits : ∀ r, s.slot t = some r → r.FramesFit t s.dlv.requests) :
    s.FramesLawful := by
  refine ⟨h.one, h.home, h.locks, fun u r _ hr => ?_⟩
  by_cases same : t = u
  · subst same
    exact fits r hr
  · exact h.fits u r (by simpa using same) hr

/-- Two frames of one slot are one frame (R50). -/
theorem eq_of_tag (h : s.FramesLawfulBut but) {e f : OutRequest} (he : e ∈ s.dlv.requests) (hf : f ∈ s.dlv.requests)
    (tag : e.body.tag = f.body.tag) : e = f :=
  List.inj_on_of_nodup_map h.one he hf tag

/-- A frame goes to the home of its slot, for the slot's lock (R46). -/
theorem frame_of_slot (h : s.FramesLawfulBut but) (hr : s.slot t = some r) {e : OutRequest}
    (he : e ∈ s.dlv.requests) (tag : e.body.tag = t) : r.home = e.destination ∧ r.lock = e.body.lock := by
  obtain ⟨a, ha, home, lock⟩ := h.home e he
  rw [tag, hr] at ha
  cases ha
  exact ⟨home, lock⟩

/-- No frame of a FREE slot stands (R46). -/
theorem free_stands_not (h : s.FramesLawfulBut but) (free : s.slot t = none) :
    frameStands t s.dlv.requests = false := by
  rw [Bool.eq_false_iff, Ne, frameStands_iff]
  rintro ⟨e, he, rfl⟩
  obtain ⟨r, hr, -⟩ := h.home e he
  simp [free] at hr

/-- The slot excepted is written, for its frames and a lock that no other slot is for. -/
theorem writeSlot (h : s.FramesLawfulBut (some t)) (a : SlotRecord)
    (frames : ∀ e ∈ s.dlv.requests, e.body.tag = t → a.home = e.destination ∧ a.lock = e.body.lock)
    (lock : ∀ u b, t ≠ u → s.slot u = some b → b.lock ≠ a.lock) : (s.setSlot t (some a)).FramesLawfulBut (some t) := by
  have slot (u : Tag) (other : t ≠ u) := slot_setSlot_of_ne s t u (some a) other
  refine ⟨h.one, fun e he => ?_, fun u v b c hb hc same => ?_, fun u b other hb => ?_⟩
  · by_cases mine : t = e.body.tag
    · exact ⟨a, by rw [← mine, slot_setSlot], frames e he mine.symm⟩
    · rw [slot _ mine]
      exact h.home e he
  · by_cases hu : t = u <;> by_cases hv : t = v
    · exact hu.symm.trans hv
    · subst hu
      rw [slot_setSlot] at hb
      cases hb
      rw [slot _ hv] at hc
      exact absurd same.symm (lock v c hv hc)
    · subst hv
      rw [slot_setSlot] at hc
      cases hc
      rw [slot _ hu] at hb
      exact absurd same (lock u b hu hb)
    · rw [slot _ hu] at hb
      rw [slot _ hv] at hc
      exact h.locks u v b c hb hc same
  · rw [slot _ (by simpa using other)] at hb
    exact h.fits u b other hb

/-- The slot excepted changes, its home and lock staying. -/
theorem changeSlot (h : s.FramesLawfulBut (some t)) (hr : s.slot t = some r) (a : SlotRecord) (home : a.home = r.home)
    (lock : a.lock = r.lock) : (s.setSlot t (some a)).FramesLawfulBut (some t) :=
  h.writeSlot a (fun _ he tag => by rw [home, lock]; exact h.frame_of_slot hr he tag)
    fun u b other hb same => other (h.locks t u r b hr hb (lock.symm.trans same.symm))

/-- The slot excepted changes to one that its frames fit. -/
theorem setSlot (h : s.FramesLawfulBut (some t)) (hr : s.slot t = some r) (a : SlotRecord) (home : a.home = r.home)
    (lock : a.lock = r.lock) (fits : a.FramesFit t s.dlv.requests) : (s.setSlot t (some a)).FramesLawful :=
  (h.changeSlot hr a home lock).settle fun b hb => by
    rw [slot_setSlot] at hb
    cases hb
    exact fits

/-- The slot excepted becomes FREE, no frame of it standing (R77). -/
theorem freeSlot (h : s.FramesLawfulBut (some t)) (gone : frameStands t s.dlv.requests = false) :
    (s.setSlot t none).FramesLawful := by
  have kept {u : Tag} {r : SlotRecord} (hr : (s.setSlot t none).slot u = some r) : t ≠ u ∧ s.slot u = some r := by
    by_cases same : t = u
    · subst same
      simp at hr
    · exact ⟨same, slot_setSlot_of_ne s t u none same ▸ hr⟩
  refine ⟨h.one, fun e he => ?_, fun u v a b ha hb => h.locks u v a b (kept ha).2 (kept hb).2, fun u r _ hr => ?_⟩
  · have other : t ≠ e.body.tag := (tag_ne_of_stands_not gone he).symm
    rw [slot_setSlot_of_ne s t _ none other]
    exact h.home e he
  · exact h.fits u r (by simpa using (kept hr).1) (kept hr).2

/-- A frame of the slot excepted is appended where none of it stands (R50). -/
theorem appendRequest (h : s.FramesLawfulBut (some t)) (hr : s.slot t = some r)
    (gone : frameStands t s.dlv.requests = false) (e : OutRequest) (tag : e.body.tag = t)
    (dest : e.destination = r.home) (lock : e.body.lock = r.lock) : (s.appendRequest e).FramesLawfulBut (some t) := by
  refine ⟨?_, fun f hf => ?_, h.locks, fun u b other hb => (h.fits u b other hb).mono fun f hf _ =>
    List.mem_append_left _ hf⟩
  · have new : ∀ f ∈ s.dlv.requests, f.body.tag ≠ e.body.tag := fun f hf =>
      tag ▸ tag_ne_of_stands_not gone hf
    show ((s.dlv.requests ++ [e]).map fun e => e.body.tag).Nodup
    rw [List.map_append, List.nodup_append]
    exact ⟨h.one, List.nodup_singleton _, by simpa using new⟩
  · rcases List.mem_append.mp hf with old | new
    · exact h.home f old
    · obtain rfl := List.mem_singleton.mp new
      exact ⟨r, tag ▸ hr, dest.symm, lock.symm⟩

/-- Frames of one slot leave the queue; the slot is excepted. -/
theorem dropFrames (h : s.FramesLawful) (t : Tag) (slots : x.req.slots = s.req.slots)
    (sub : x.dlv.requests.Sublist s.dlv.requests) (others : ∀ e ∈ s.dlv.requests, e.body.tag ≠ t → e ∈ x.dlv.requests) :
    x.FramesLawfulBut (some t) := by
  have slot (t : Tag) : x.slot t = s.slot t := by rw [State.slot, slots, State.slot]
  refine ⟨h.one.sublist (sub.map _), fun e he => by rw [slot]; exact h.home e (sub.subset he),
    fun u v a b ha hb => h.locks u v a b (slot u ▸ ha) (slot v ▸ hb), fun u r other hr => ?_⟩
  refine (h.fits u r (by simp) (slot u ▸ hr)).mono fun e he tag => others e he fun same => other ?_
  rw [← same, tag]

/-! ## Slots that send, finish and are settled -/

/-- A frame of the slot excepted is appended, or owed while another of it stands (R50). -/
theorem sendOrOwe (h : s.FramesLawfulBut (some t)) (hr : s.slot t = some r) (a : SlotRecord) (b : RequestBody)
    (home : a.home = r.home) (lock : a.lock = r.lock) (owed : a.owed = none)
    (state : a.state = .releasing ∨ a.state = .cancelling) (tag : b.tag = t) (blk : b.lock = r.lock) :
    (s.sendOrOwe t a b).FramesLawful := by
  unfold State.sendOrOwe
  split
  · next stands =>
    refine h.setSlot hr { a with owed := some b } home lock ⟨fun pending => ?_, fun _ => stands, ?_, fun done => ?_⟩
    · rcases state with state | state <;> simp [state] at pending
    · rintro _ ⟨⟩
      exact ⟨tag, blk.trans lock.symm, state⟩
    · rcases state with state | state <;> simp [state] at done
  · next gone =>
    have sent := (h.changeSlot hr a home lock).appendRequest (slot_setSlot s t _) (by simpa using gone)
      { destination := a.home, body := b } tag rfl (blk.trans lock.symm)
    refine sent.settle fun c hc => ?_
    obtain rfl : a = c := Option.some.inj ((slot_setSlot s t _).symm.trans hc)
    exact .of_quiet (by rcases state with state | state <;> simp [state]) owed
      (by rcases state with state | state <;> simp [state])

/-- The slot excepted finishes (R73, R77). -/
theorem finishSlot (h : s.FramesLawfulBut (some t)) (hr : s.slot t = some r) (a : SlotRecord)
    (rec : Option CompletionRecord) (home : a.home = r.home) (lock : a.lock = r.lock) :
    (s.finishSlot t a rec).FramesLawful := by
  have posted : (s.postRecords rec.toList).FramesLawfulBut (some t) := h.of_same rfl rfl
  unfold State.finishSlot SlotRecord.finished
  split
  · next gone => exact posted.freeSlot gone.2
  · next left =>
    refine posted.setSlot (r := r) hr _ home lock (.of_done rfl rfl fun none => ?_)
    exact Bool.of_not_eq_false fun gone => left ⟨none, gone⟩

/-- The slot excepted is settled, being DONE or fitting its frames (R77). -/
theorem settleSlot (h : s.FramesLawfulBut (some t)) (hr : s.slot t = some r) (a : SlotRecord) (home : a.home = r.home)
    (lock : a.lock = r.lock) (fits : a.state ≠ .done → a.FramesFit t s.dlv.requests)
    (done : a.state = .done → a.owed = none) :
    (s.setSlot t (a.settled (frameStands t s.dlv.requests))).FramesLawful := by
  unfold SlotRecord.settled
  split
  · next gone => exact h.freeSlot gone.2.2
  · next left =>
    refine h.setSlot hr a home lock ?_
    by_cases state : a.state = .done
    · exact .of_done state (done state) fun none => by simpa [state, none] using left
    · exact fits state

/-! ## The acts -/

/-- A GRANT of a slot that awaits it (R54). -/
theorem applyGrant (h : s.FramesLawful) (t : Tag) (r : SlotRecord) (g : Word) (v : List Byte) (hr : s.slot t = some r)
    (awaits : r.state = .pending ∨ r.state = .waiting) : (s.applyGrant t r g v).FramesLawful := by
  have owed : r.owed = none := (h.fits t r (by simp) hr).owes_nothing
    (by rcases awaits with state | state <;> simp [state]) (by rcases awaits with state | state <;> simp [state])
  have held (n : Nat) := (h.except t).setSlot hr
    { r with state := .held, timer := none, hold := some ⟨g, v⟩, recordsPending := n } rfl rfl
    (.of_quiet (by simp) owed (by simp))
  unfold State.applyGrant
  dsimp only
  split
  · exact (held (r.recordsPending + 1)).of_same rfl rfl
  · exact (held r.recordsPending).of_same (by simp) (by simp)

theorem applyDeny (h : s.FramesLawful) (t : Tag) (r : SlotRecord) (why : DenyReason) (hr : s.slot t = some r) :
    (s.applyDeny t r why).FramesLawful := by
  unfold State.applyDeny
  split
  · exact (h.except t).finishSlot hr r _ rfl rfl
  · exact ((h.except t).finishSlot hr r none rfl rfl).of_same (by simp) (by simp)

/-- A response is applied, or discarded (R53 to R58). -/
theorem applyResponse (h : s.FramesLawful) (src : Station) (b : ResponseBody) :
    (s.applyResponse src b).FramesLawful := by
  unfold State.applyResponse
  split
  · exact h
  · next r hr =>
    split
    · exact h
    · have marked (state : r.state = .pending) : (s.applyToMarked b.tag r).FramesLawful :=
        (h.except _).sendOrOwe hr { r with state := .cancelling, mark := false } _ rfl rfl
          ((h.fits _ r (by simp) hr).owes_nothing (by simp [state]) (by simp [state])) (.inr rfl) rfl rfl
      have finished (rec : Option CompletionRecord) := (h.except _).finishSlot hr r rec rfl rfl
      split
      · split
        · next state => exact h.applyGrant _ r _ _ hr (.inr state)
        · next state =>
          split
          · exact marked state
          · exact h.applyGrant _ r _ _ hr (.inl state)
        all_goals exact h
      · split
        · exact h.applyDeny _ r _ hr
        · next state =>
          split
          · exact marked state
          · exact h.applyDeny _ r _ hr
        all_goals exact h
      · split
        · exact finished _
        all_goals exact h
      · split
        · exact finished _
        all_goals exact h

/-- An owed frame is appended when no frame of its slot is left (R50). -/
theorem sendOwed (h : s.FramesLawfulBut (some t)) (hr : s.slot t = some r)
    (gone : frameStands t s.dlv.requests = false) (pending : r.state ≠ .pending) (done : r.state ≠ .done)
    (owed : ∀ b, r.owed = some b → b.tag = t ∧ b.lock = r.lock) : (s.sendOwed t r).FramesLawful := by
  unfold State.sendOwed
  split
  · next nothing =>
    refine h.settle fun a ha => ?_
    obtain rfl : r = a := Option.some.inj (hr.symm.trans ha)
    exact .of_quiet pending nothing done
  · next b due =>
    obtain ⟨tag, lock⟩ := owed b due
    have paid := h.changeSlot hr { r with owed := none } rfl rfl
    have sent := paid.appendRequest (slot_setSlot s t _) gone { destination := r.home, body := b } tag rfl lock
    refine sent.settle fun a ha => ?_
    obtain rfl : { r with owed := none } = a := Option.some.inj ((slot_setSlot s t _).symm.trans ha)
    exact .of_quiet pending rfl done

/-- The last frame of a slot has left the queue, an ACQUIRE if the slot is PENDING (R51, R64, R77). -/
theorem requestDeparted (h : s.FramesLawfulBut (some t)) (isAcquire : Bool)
    (gone : frameStands t s.dlv.requests = false)
    (left : ∀ r, s.slot t = some r → (r.state = .pending → isAcquire = true) ∧
      ∀ b, r.owed = some b → b.tag = t ∧ b.lock = r.lock ∧ (r.state = .releasing ∨ r.state = .cancelling)) :
    (s.requestDeparted t isAcquire).FramesLawful := by
  unfold State.requestDeparted
  split
  · next free => exact h.settle fun r hr => by simp [free] at hr
  · next r hr =>
    obtain ⟨acquire, owed⟩ := left r hr
    have owes (releasing : r.state ≠ .releasing) (cancelling : r.state ≠ .cancelling) : r.owed = none := by
      cases due : r.owed with
      | none => rfl
      | some b =>
        obtain ⟨-, -, state⟩ := owed b due
        exact absurd state (not_or.mpr ⟨releasing, cancelling⟩)
    have paying (pending : r.state ≠ .pending) (done : r.state ≠ .done) : (s.sendOwed t r).FramesLawful :=
      h.sendOwed hr gone pending done fun b due => ⟨(owed b due).1, (owed b due).2.1⟩
    split
    · next state =>
      have nothing := owes (by simp [state]) (by simp [state])
      rw [if_neg (by simp [acquire state])]
      split
      · exact h.sendOrOwe hr { r with state := .cancelling, mark := false } _ rfl rfl nothing (.inr rfl) rfl rfl
      · exact h.setSlot hr { r with state := .waiting } rfl rfl (.of_quiet (by simp) nothing (by simp))
    · next state =>
      exact h.settleSlot hr r rfl rfl (absurd state) fun _ => owes (by simp [state]) (by simp [state])
    all_goals next state => exact paying (by simp [state]) (by simp [state])

/-- The oldest frame to a destination departs (R50, R51, R64, R77). -/
theorem departs (h : s.FramesLawful) (d : Station) (e : OutRequest)
    (oldest : oldestRequestTo d s.dlv.requests = some e) :
    ((s.withDlv { s.dlv with requests := dropOldestRequest d s.dlv.requests }).requestDeparted e.body.tag
      e.body.isAcquire).FramesLawful := by
  obtain ⟨a, b, split, rest⟩ := oldest_split oldest
  have mem : e ∈ s.dlv.requests := by simp [split]
  have dropped : (s.withDlv { s.dlv with requests := dropOldestRequest d s.dlv.requests }).FramesLawfulBut
      (some e.body.tag) := by
    refine h.dropFrames e.body.tag rfl ?_ fun f hf other => ?_
    · exact List.eraseP_sublist
    · rw [split] at hf
      show f ∈ dropOldestRequest d s.dlv.requests
      rw [rest]
      rcases List.mem_append.mp hf with before | after
      · exact List.mem_append_left _ before
      · rcases List.mem_cons.mp after with same | behind
        · exact absurd (congrArg (fun e => e.body.tag) same) other
        · exact List.mem_append_right _ behind
  refine dropped.requestDeparted _ ?_ fun r hr => ?_
  · have one := h.one
    rw [split, List.map_append, List.map_cons, List.nodup_middle, List.nodup_cons, ← List.map_append] at one
    rw [dlv_withDlv, rest, Bool.eq_false_iff, Ne, frameStands_iff]
    rintro ⟨f, hf, tag⟩
    exact one.1 (List.mem_map.mpr ⟨f, hf, tag⟩)
  · have fits := h.fits _ r (by simp) hr
    refine ⟨fun pending => ?_, fits.owed⟩
    obtain ⟨f, hf, tag, acquire⟩ := fits.acquire pending
    rwa [h.eq_of_tag hf mem tag] at acquire

/-- The ACQUIRE frame of a slot is withdrawn, and the slot finishes (R61, R127). -/
theorem withdrawAndFinish (h : s.FramesLawful) (t : Tag) (r a : SlotRecord) (e : OutRequest) (hr : s.slot t = some r)
    (home : a.home = r.home) (lock : a.lock = r.lock) : (s.withdrawAndFinish t a e).FramesLawful := by
  have queue : (s.withdraw t e).dlv.requests = s.dlv.requests.filter (fun x => decide (x.body.tag ≠ t)) := by
    unfold State.withdraw
    dsimp only
    split <;> rfl
  have withdrawn : (s.withdraw t e).FramesLawfulBut (some t) := by
    refine h.dropFrames t (by simp) (queue ▸ List.filter_sublist) fun f hf other => ?_
    rw [queue]
    exact List.mem_filter.mpr ⟨hf, by simpa using other⟩
  exact withdrawn.finishSlot ((slot_of_req (by simp) t).trans hr) a _ home lock

theorem acquireNotTaken (h : s.FramesLawful) (t : Tag) : (s.acquireNotTaken t).FramesLawful := by
  unfold State.acquireNotTaken
  split
  · next r e hr _ =>
    split
    · exact h.withdrawAndFinish t r r e hr rfl rfl
    · exact h
  all_goals exact h

/-- A cancel is made (R61, R63). -/
theorem cancelSlot (h : s.FramesLawful) (t : Tag) (cause : CancelCause) : (s.cancelSlot t cause).FramesLawful := by
  unfold State.cancelSlot
  split
  · exact h
  · next r hr =>
    have fits := h.fits t r (by simp) hr
    dsimp only
    split
    · next state =>
      have marked := (h.except t).setSlot hr { r with cancelCause := cause, timer := none, mark := true } rfl rfl
        ⟨fits.acquire, fits.owing, fits.owed, fits.done⟩
      split
      · exact h
      · split
        · split
          · exact h.withdrawAndFinish t r _ _ hr rfl rfl
          · exact marked
        · exact marked
    · next state =>
      exact (h.except t).sendOrOwe hr { r with cancelCause := cause, timer := none, state := .cancelling } _ rfl rfl
        (fits.owes_nothing (by simp [state]) (by simp [state])) (.inr rfl) rfl rfl
    all_goals exact h

/-- A FREE slot opens for a lock that has none, and its ACQUIRE frame is appended (R46 to R48). -/
theorem openSlot (h : s.FramesLawful) (t : Tag) (l : LockId) (m : LockMode) (w : WaitKind) (o : Origin)
    (home : Station) (timer : Option Nat) (free : s.slot t = none) (unused : s.slotForLock l = none) :
    (s.openSlot t l m w o home timer).FramesLawful := by
  have gone := h.free_stands_not free
  have opened := (h.except t).writeSlot
    { state := .pending, lock := l, mode := m, origin := o, home := home, timer := timer, cancelCause := .none,
      mark := false, hold := none, recordsPending := 0, owed := none }
    (fun e he tag => absurd tag (tag_ne_of_stands_not gone he))
    fun u b _ hb same => by simpa [unused] using s.slotForLock_isSome l u b hb same
  have sent := opened.appendRequest (slot_setSlot s t _) gone { destination := home, body := .acquire l t m w } rfl rfl
    rfl
  refine sent.settle fun a ha => ?_
  obtain rfl := Option.some.inj ((slot_setSlot s t _).symm.trans ha)
  exact ⟨fun _ => ⟨_, List.mem_append_right _ (List.mem_singleton.mpr rfl), rfl, rfl⟩, fun owes => absurd rfl owes,
    fun _ due => (nomatch due), fun done => (nomatch done)⟩

/-- The release of a HELD slot is taken (R59, R60). -/
theorem releaseSlot (h : s.FramesLawful) (t : Tag) (r : SlotRecord) (u : Bool) (v : List Byte)
    (hr : s.slot t = some r) (held : r.state = .held) : (s.releaseSlot t r u v).FramesLawful :=
  (h.except t).sendOrOwe hr { r with state := .releasing } _ rfl rfl
    ((h.fits t r (by simp) hr).owes_nothing (by simp [held]) (by simp [held])) (.inl rfl) rfl rfl

/-- The head of the completion queue is popped (R76, R77). -/
theorem popRecord (h : s.FramesLawful) : s.popRecord.FramesLawful := by
  unfold State.popRecord
  split
  · exact h
  · next c cs _ =>
    have popped : (s.withReq { s.req with completions := cs }).FramesLawful := h.of_same rfl rfl
    dsimp only
    split
    · exact popped
    · next r hr =>
      have fits := popped.fits c.slot r (by simp) hr
      exact (popped.except c.slot).settleSlot hr { r with recordsPending := r.recordsPending - 1 } rfl rfl
        (fun isOpen => ⟨fits.acquire, fits.owing, fits.owed, fun done => absurd done isOpen⟩)
        fun (done : r.state = .done) => fits.owes_nothing (by simp [done]) (by simp [done])

/-- Every affected slot is lost, its frames having left the queue (R69 to R71). -/
theorem loseSlots (h : s.FramesLawful) (affected : Station → Bool) (why : Reason) (req : x.req = s.req)
    (requests : x.dlv.requests = s.dlv.requests.filter (fun e => !affected e.destination)) :
    (x.loseSlots affected why).FramesLawful := by
  have kept {u : Tag} {a : SlotRecord} (ha : (x.loseSlots affected why).slot u = some a) : ∃ r, s.slot u = some r ∧
      (affected r.home = false ∧ a = r ∨
        affected r.home = true ∧ r.lose u why (frameStands u x.dlv.requests) = some a) := by
    rw [slot_loseSlots, slot_of_req req] at ha
    split at ha
    · next r hr =>
      refine ⟨r, hr, ?_⟩
      split at ha
      · next lost => exact .inr ⟨lost, ha⟩
      · next stays => exact .inl ⟨by simpa using stays, (Option.some.inj ha).symm⟩
    · cases ha
  have lock {u : Tag} {a : SlotRecord} (ha : (x.loseSlots affected why).slot u = some a) :
      ∃ r, s.slot u = some r ∧ a.lock = r.lock := by
    obtain ⟨r, hr, ⟨-, rfl⟩ | ⟨-, lost⟩⟩ := kept ha
    · exact ⟨a, hr, rfl⟩
    · exact ⟨r, hr, SlotRecord.lock_of_lose lost⟩
  have stay {e : OutRequest} : e ∈ x.dlv.requests ↔ e ∈ s.dlv.requests ∧ affected e.destination = false := by
    simp [requests]
  constructor
  · rw [loseSlots_dlv, requests]
    exact h.one.sublist (List.filter_sublist.map _)
  · intro e he
    rw [loseSlots_dlv, stay] at he
    obtain ⟨r, hr, home, lock⟩ := h.home e he.1
    refine ⟨r, ?_, home, lock⟩
    rw [slot_loseSlots, slot_of_req req, hr]
    simp [home, he.2]
  · intro u v a b ha hb same
    obtain ⟨r, hr, lockA⟩ := lock ha
    obtain ⟨c, hc, lockB⟩ := lock hb
    exact h.locks u v r c hr hc (lockA.symm.trans (same.trans lockB))
  · intro u a _ ha
    rw [loseSlots_dlv]
    obtain ⟨r, hr, ⟨stays, rfl⟩ | ⟨-, lost⟩⟩ := kept ha
    · refine (h.fits u a (by simp) hr).mono fun e he tag => stay.mpr ⟨he, ?_⟩
      rw [← (h.frame_of_slot hr he tag).1, stays]
    · exact (h.fits u r (by simp) hr).of_lose lost

/-- Slots and frames as a reset leaves them (R78, R135). -/
theorem of_reset (req : s.req = RequestController.empty) (requests : s.dlv.requests = []) : s.FramesLawful where
  one := by simp [requests]
  home e he := by simp [requests] at he
  locks t u a b ha := by simp [State.slot, req, RequestController.empty, Vector.get] at ha
  fits t r _ hr := by simp [State.slot, req, RequestController.empty, Vector.get] at hr

/-- Each act of the request controller keeps it. -/
theorem of_acts (h : s.FramesLawful) (acts : s.Acts x) : x.FramesLawful := by
  induction acts with
  | same req requests => exact h.of_same (by rw [req]) requests
  | trans _ _ first second => exact second (first h)
  | response s src b => exact h.applyResponse src b
  | departs s d e oldest => exact h.departs d e oldest
  | notTaken s t => exact h.acquireNotTaken t
  | cancels s t cause => exact h.cancelSlot t cause
  | opens s t l m w o home timer free unused => exact h.openSlot t l m w o home timer free unused
  | releases s t r u v found held => exact h.releaseSlot t r u v found held
  | pops s => exact h.popRecord
  | loses s x affected why req requests => exact h.loseSlots affected why req requests
  | resets req requests => exact of_reset req requests

end FramesLawfulBut
end State

/-- Settles O58: the invariant with its parts named, which every act of a step keeps. -/
theorem frameInvKept : Obligations.FrameInvKept := fun s t inv done =>
  t.framesLawful_iff.mp ((s.framesLawful_iff.mpr inv).of_acts (.of_step done))

end Sys2Proof.Machine

/-! # The request controller at the port and the timers (R46 to R77, R121, R143, R174 to R176, R185 to R192): O6, O8 to
O10, O14, O15, O20, O22, O23, O50

Each command is a lookup that finds its slot, and an operation on this slot that the lemmas below say once. -/

namespace Sys2Proof.Machine

/-- The generation of a slot with a hold is the hold's (R73). -/
theorem SlotRecord.heldGeneration_of_hold {r : SlotRecord} {k : Hold} (hold : r.hold = some k) :
    r.heldGeneration = k.generation := by
  simp only [heldGeneration, hold]

/-- No frame of a slot stands in a queue that its frames have left (R127). -/
theorem frameStands_filter (t : Tag) (q : List OutRequest) :
    frameStands t (q.filter (fun x => decide (x.body.tag ≠ t))) = false := by
  rw [Bool.eq_false_iff, Ne, frameStands_iff]
  rintro ⟨e, he, tag⟩
  simp [tag] at he

namespace State

variable {s : State} {t : Tag} {r : SlotRecord} {l : LockId}

/-! ## Frames sent or owed (R50) -/

/-- While a frame of the slot stands, its next one is owed. -/
theorem sendOrOwe_owes (b : RequestBody) (stands : frameStands t s.dlv.requests = true) :
    s.sendOrOwe t r b = s.slotNow t (some { r with owed := some b }) := if_pos stands

/-- Else it is appended. -/
theorem sendOrOwe_sends (b : RequestBody) (gone : frameStands t s.dlv.requests = false) :
    s.sendOrOwe t r b = { s.slotNow t (some r) with
      dlv := { s.dlv with requests := s.dlv.requests ++ [{ destination := r.home, body := b }] } } :=
  if_neg (by simp [gone])

/-- A slot that finishes without a record is FREE when neither a record nor a frame of it is left (R77). -/
theorem finishSlot_frees (gone : frameStands t s.dlv.requests = false) (empty : r.recordsPending = 0) :
    s.finishSlot t r none = s.slotNow t none := by
  rw [finishSlot_quietly, gone, SlotRecord.endedQuietly, if_pos ⟨empty, rfl⟩]

/-! ## Submissions and windows that are taken -/

/-- An ACQUIRE that passes every check opens the slot (R47, R174). -/
theorem submitAcquire_accepted {m : LockMode} {w : WaitKind} {h : Station} (online : s.ctl.state = .online)
    (lock : s.stagedLock = some l) (mode : s.stagedMode = some m) (wait : s.stagedWait = some w)
    (admitted : s.admitAcquire l = .ok (t, h)) :
    s.submitAcquire = (s.openSlot t l m w .command h s.stagedTimeout).setResult .accepted := by
  simp only [submitAcquire, online, ne_eq, not_true_eq_false, if_false, lock, mode, wait, admitted]

/-- A window read that passes every check opens the slot and stalls (R48, R186). -/
theorem acquireByWindow_admitted {m : LockMode} {h : Station} (online : s.ctl.state = .online)
    (admitted : s.admitAcquire l = .ok (t, h)) :
    s.acquireByWindow m l = (s.openSlot t l m .queue .window h none).stallRead t := by
  simp only [acquireByWindow, online, ne_eq, not_true_eq_false, if_false, admitted]

/-- A RELEASE of a HELD slot is taken (R59, R175). -/
theorem submitRelease_accepted {u : Bool} {v : List Byte} (online : s.ctl.state = .online)
    (lock : s.stagedLock = some l) (update : s.stagedUpdate = some (u, v)) (mine : s.slotForLock l = some t)
    (found : s.slot t = some r) (held : r.state = .held) :
    s.submitRelease = (s.releaseSlot t r u v).setResult .accepted := by
  simp only [submitRelease, online, ne_eq, not_true_eq_false, if_false, lock, update, mine, found, held, if_true]

/-- A write in the release window for a HELD slot is taken (R60, R192). -/
theorem releaseByWindow_taken (online : s.ctl.state = .online) (mine : s.slotForLock l = some t)
    (found : s.slot t = some r) (held : r.state = .held) : s.releaseByWindow l = s.releaseSlot t r false [] := by
  simp only [releaseByWindow, online, ne_eq, not_true_eq_false, if_false, mine, found, held, if_true]

/-- Any other write in the release window changes nothing (R192). -/
theorem releaseByWindow_ignored
    (other : s.ctl.state ≠ .online ∨ ∀ t r, s.slot t = some r → r.lock = l → r.state ≠ .held) :
    s.releaseByWindow l = s := by
  unfold releaseByWindow
  split
  · rfl
  · next online =>
    split
    · rfl
    · next t mine =>
      obtain ⟨r, found, lock⟩ := s.slotForLock_spec l t mine
      have unheld := other.resolve_left online t r found lock
      simp only [found, if_neg unheld]

/-- A CANCEL of a slot that awaits its answer is taken (R61, R176). -/
theorem submitCancel_accepted (online : s.ctl.state = .online) (lock : s.stagedLock = some l)
    (mine : s.slotForLock l = some t) (found : s.slot t = some r)
    (awaits : (r.state = .pending ∧ r.mark = false) ∨ r.state = .waiting) :
    s.submitCancel = (s.cancelSlot t .software).setResult .accepted := by
  simp only [submitCancel, online, ne_eq, not_true_eq_false, if_false, lock, mine, found, if_pos awaits]

/-! ## Cancels (R61, R63, R127) -/

section Cancels

variable (s)

/-- A WAITING slot goes to CANCELLING with its CANCEL sent or owed. -/
theorem cancelSlot_waiting (cause : CancelCause) (found : s.slot t = some r) (waiting : r.state = .waiting) :
    s.cancelSlot t cause =
      s.sendOrOwe t { r with cancelCause := cause, timer := none, state := .cancelling } (.cancel r.lock t) := by
  simp only [cancelSlot, found, waiting]

section Pending

variable {e : OutRequest} (found : s.slot t = some r) (pending : r.state = .pending) (clear : r.mark = false)
variable (frame : acquireFrameOf t s.dlv.requests = some e)

include found pending clear frame

/-- A PENDING slot whose frame was never started loses the frame, and ends with the record of the cause. -/
theorem cancelSlot_unstarted_posts (cause : CancelCause) {k : CompletionKind}
    (ends : cancelRecord t { r with cancelCause := cause, timer := none } .unsent =
      some ({ r with cancelCause := cause, timer := none }.toRecord t k .unsent 0#16 []))
    (fresh : ¬ s.frameStarted e) :
    s.cancelSlot t cause =
      ({ s with dlv := { s.dlv with requests := s.dlv.requests.filter (fun x => decide (x.body.tag ≠ t)) } } :
        State).posting t { r with cancelCause := cause, timer := none } k .unsent 0#16 []
        { r with cancelCause := cause, timer := none }.ended := by
  rw [s.cancelSlot_unstarted t cause r e found pending clear frame fresh, ends, finishSlot_posting]
  rfl

/-- A PENDING slot whose started frame is withdrawable loses the frame, and ends with the record of the cause. -/
theorem cancelSlot_withdraws_posts (cause : CancelCause) {k : CompletionKind}
    (ends : cancelRecord t { r with cancelCause := cause, timer := none } .unsent =
      some ({ r with cancelCause := cause, timer := none }.toRecord t k .unsent 0#16 []))
    (started : s.frameStarted e) (landed : ¬ s.frameInFlight e)
    (answered : (s.sendRecord e.destination).lastAnswer ≠ .none) :
    s.cancelSlot t cause =
      ({ s with dlv := { s.dlv with
          requests := s.dlv.requests.filter (fun x => decide (x.body.tag ≠ t)),
          send := vset s.dlv.send e.destination (s.sendRecord e.destination).unstarted } } :
        State).posting t { r with cancelCause := cause, timer := none } k .unsent 0#16 []
        { r with cancelCause := cause, timer := none }.ended := by
  rw [s.cancelSlot_withdraws t cause r e found pending clear frame started landed answered, ends, finishSlot_posting]
  rfl

/-- At the wait limit a PENDING slot whose frame was never started loses the frame and is FREE (R68). -/
theorem cancelSlot_unstarted_frees (empty : r.recordsPending = 0) (fresh : ¬ s.frameStarted e) :
    s.cancelSlot t .windowLimit =
      ({ s with dlv := { s.dlv with requests := s.dlv.requests.filter (fun x => decide (x.body.tag ≠ t)) } } :
        State).slotNow t none :=
  (s.cancelSlot_unstarted t .windowLimit r e found pending clear frame fresh).trans
    (finishSlot_frees (frameStands_filter t _) empty)

/-- At the wait limit a PENDING slot whose started frame is withdrawable loses the frame and is FREE (R68). -/
theorem cancelSlot_withdraws_frees (empty : r.recordsPending = 0) (started : s.frameStarted e)
    (landed : ¬ s.frameInFlight e) (answered : (s.sendRecord e.destination).lastAnswer ≠ .none) :
    s.cancelSlot t .windowLimit =
      ({ s with dlv := { s.dlv with
          requests := s.dlv.requests.filter (fun x => decide (x.body.tag ≠ t)),
          send := vset s.dlv.send e.destination (s.sendRecord e.destination).unstarted } } : State).slotNow t none :=
  (s.cancelSlot_withdraws t .windowLimit r e found pending clear frame started landed answered).trans
    (finishSlot_frees (frameStands_filter t _) empty)

end Pending
end Cancels

/-- The stalled read has ended with the result word of TIMEOUT (R189). -/
def readTimedOut (s : State) : State :=
  { s with port := { s.port with window := .idle, dataOut := some 0x0300#16 } }

/-- At the wait limit the stalled read ends with TIMEOUT, and its slot is cancelled (R68, R189). -/
theorem windowLimit_of_stalled {n : Nat} (stalled : s.port.window = .stalled t n) :
    s.windowLimit = s.readTimedOut.cancelSlot t .windowLimit := by
  simp only [windowLimit, stalled]
  rw [endRead_of_stalled s t n _ stalled]
  rfl

/-- The timer of a slot runs out (R66). -/
theorem slotTimeout_of_timer {n : Nat} (found : s.slot t = some r) (timer : r.timer = some n) :
    s.slotTimeout t = s.cancelSlot t .timeout := by
  simp only [slotTimeout, found, timer]
  rfl

/-- A timer that does not run has no expiry (log 5). -/
theorem slotTimeout_of_no_timer (none : ∀ r, s.slot t = some r → r.timer = .none) : s.slotTimeout t = s := by
  unfold slotTimeout
  split
  · rfl
  · next r found => exact onlyIf_of_fails _ _ _ (by simp [none r found])

end State

/-- Settles O6: the checks passed, the slot is opened in the cycle taken. -/
theorem acquireOpensSlot : Obligations.AcquireOpensSlot := by
  intro s l m w h t port online lock mode wait mapped unused usable lowest
  have admitted : s.cycleTaken.admitAcquire l = .ok (t, h) :=
    State.admitAcquire_ok _ l h t mapped unused usable lowest
  have accepted := State.submitAcquire_accepted (s := s.cycleTaken) online lock mode wait admitted
  exact congrArg _ ((portCycle_of_free s _ port).trans accepted)

/-- Settles O20: the checks passed, the slot is opened and the read stalls. -/
theorem windowReadStalls : Obligations.WindowReadStalls := by
  intro s m l h t port online mapped unused usable lowest
  have admitted : s.cycleTaken.admitAcquire l = .ok (t, h) :=
    State.admitAcquire_ok _ l h t mapped unused usable lowest
  have stalled := State.acquireByWindow_admitted (s := s.cycleTaken) (m := m) online admitted
  exact congrArg _ ((portCycle_of_free s _ port).trans stalled)

/-- Settles O8: the slot found is HELD, and its release is sent or owed. -/
theorem releaseTaken : Obligations.ReleaseTaken := by
  intro s l u v t r k port online lock update found rlock only held hold
  have mine : s.cycleTaken.slotForLock l = some t := s.slotForLock_of_only l t r found rlock only
  have accepted := State.submitRelease_accepted (s := s.cycleTaken) online lock update mine found held
  refine congrArg _ (((portCycle_of_free s _ port).trans accepted).trans ?_)
  rw [State.releaseSlot, SlotRecord.heldGeneration_of_hold hold, rlock]
  split
  · next stands => exact congrArg (·.setResult .accepted) (State.sendOrOwe_owes (s := s.cycleTaken) _ stands)
  · next gone =>
    exact congrArg (·.setResult .accepted) (State.sendOrOwe_sends (s := s.cycleTaken) _ (by simpa using gone))

/-- Settles O22: the slot found is HELD and released without update, or there is none. -/
theorem releaseWindowWrite : Obligations.ReleaseWindowWrite := by
  intro s l v port
  refine ⟨fun t r k online found rlock only held hold => ?_, fun other => ?_⟩
  · have mine : s.cycleTaken.slotForLock l = some t := s.slotForLock_of_only l t r found rlock only
    have taken := State.releaseByWindow_taken (s := s.cycleTaken) online mine found held
    refine congrArg _ (((portCycle_of_free s _ port).trans taken).trans ?_)
    rw [State.releaseSlot, SlotRecord.heldGeneration_of_hold hold, rlock]
    split
    · next stands => exact State.sendOrOwe_owes (s := s.cycleTaken) _ stands
    · next gone => exact State.sendOrOwe_sends (s := s.cycleTaken) _ (by simpa using gone)
  · refine congrArg _ ((portCycle_of_free s _ port).trans ?_)
    refine State.releaseByWindow_ignored (other.imp id fun none t r found lock held => ?_)
    simpa [lock, held] using (s.slotIs_iff t _).mp (none t) r found

/-- Settles O9: the slot found is WAITING, and its CANCEL is sent or owed. -/
theorem cancelOfWaitingSlot : Obligations.CancelOfWaitingSlot := by
  intro s l t r port online lock found rlock only waiting
  have mine : s.cycleTaken.slotForLock l = some t := s.slotForLock_of_only l t r found rlock only
  have accepted := State.submitCancel_accepted (s := s.cycleTaken) online lock mine found (.inr waiting)
  refine congrArg _ (((portCycle_of_free s _ port).trans accepted).trans ?_)
  rw [s.cycleTaken.cancelSlot_waiting .software found waiting, rlock]
  split
  · next stands => exact congrArg (·.setResult .accepted) (State.sendOrOwe_owes (s := s.cycleTaken) _ stands)
  · next gone =>
    exact congrArg (·.setResult .accepted) (State.sendOrOwe_sends (s := s.cycleTaken) _ (by simpa using gone))

/-- Settles O10: the slot found is PENDING, and what stands of its frame decides between its end and the mark. -/
theorem cancelOfPendingSlot : Obligations.CancelOfPendingSlot := by
  intro s l t r e port online lock found rlock only pending clear frame
  have mine : s.cycleTaken.slotForLock l = some t := s.slotForLock_of_only l t r found rlock only
  have accepted := State.submitCancel_accepted (s := s.cycleTaken) online lock mine found (.inl ⟨pending, clear⟩)
  have cancelled {x : State} (h : s.cycleTaken.cancelSlot t .software = x) :
      exec .cancel s = .next (x.setResult .accepted) :=
    h ▸ congrArg _ ((portCycle_of_free s _ port).trans accepted)
  exact ⟨fun fresh => cancelled (s.cycleTaken.cancelSlot_unstarted_posts found pending clear frame .software rfl fresh),
    fun started landed answered => cancelled
      (s.cycleTaken.cancelSlot_withdraws_posts found pending clear frame .software rfl started landed answered),
    fun started standing => cancelled
      (s.cycleTaken.cancelSlot_marks t .software r e found pending clear frame started standing)⟩

/-- Settles O23: the read has ended, and what stands of the slot's frame decides what its cancel makes of it. -/
theorem waitLimitEndsRead : Obligations.WaitLimitEndsRead := by
  intro s t n r working stalled found
  have limit {x : State} (h : s.readTimedOut.cancelSlot t .windowLimit = x) :
      exec .windowWaitLimitExpiry s = .next x :=
    h ▸ congrArg _ ((running_of_working s _ working).trans (State.windowLimit_of_stalled stalled))
  refine ⟨fun waiting gone => limit ?_, fun e pending clear frame => ⟨fun fresh none => limit ?_,
    fun started landed answered none => limit ?_, fun started standing => limit ?_⟩⟩
  · exact (s.readTimedOut.cancelSlot_waiting .windowLimit found waiting).trans
      (State.sendOrOwe_sends (s := s.readTimedOut) _ gone)
  · exact s.readTimedOut.cancelSlot_unstarted_frees found pending clear frame none fresh
  · exact s.readTimedOut.cancelSlot_withdraws_frees found pending clear frame none started landed answered
  · exact s.readTimedOut.cancelSlot_marks t .windowLimit r e found pending clear frame started standing

/-- Settles O50: each timer that runs has its event, the slot's being a cancel; one that does not has none. -/
theorem timerExpiries : Obligations.TimerExpiries := by
  intro s working
  have event (f : State → State) : Host.Outcome.next (running s f) = (.next (f s) : Result) :=
    congrArg _ (running_of_working s f working)
  refine ⟨fun t r n found timer => ?_, fun t none => ?_, fun d n runs => ?_, fun d none => ?_, fun n online runs => ?_,
    fun none => ?_⟩
  · have expiry {x : State} (h : s.cancelSlot t .timeout = x) : exec (.slotTimerExpiry t) s = .next x :=
      h ▸ (event _).trans (congrArg _ (State.slotTimeout_of_timer found timer))
    refine ⟨fun waiting gone => expiry ?_, fun e pending clear frame => ⟨fun fresh => expiry ?_,
      fun started landed answered => expiry ?_, fun started standing => expiry ?_⟩⟩
    · exact (s.cancelSlot_waiting .timeout found waiting).trans (State.sendOrOwe_sends _ gone)
    · exact s.cancelSlot_unstarted_posts found pending clear frame .timeout rfl fresh
    · exact s.cancelSlot_withdraws_posts found pending clear frame .timeout rfl started landed answered
    · exact State.cancelSlot_marks s t .timeout r e found pending clear frame started standing
  · refine (event _).trans (congrArg _ (State.slotTimeout_of_no_timer fun r found => ?_))
    simpa using (s.slotIs_iff t _).mp none r found
  · exact (event _).trans (congrArg _ (onlyIf_of_holds _ _ _ (by simp [runs])))
  · exact (event _).trans (congrArg _ (onlyIf_of_fails _ _ _ (by simp [none])))
  · refine (event _).trans (congrArg _ ((onlyIf_of_holds _ _ _ (by simp [online, runs])).trans ?_))
    rw [State.setPresenceDue, if_neg (by simp [online])]
    rfl
  · refine (event _).trans (congrArg _ (onlyIf_of_fails _ _ _ ?_))
    rintro ⟨online, runs⟩
    rcases none with off | none
    · exact off online
    · simp [none] at runs

/-- Settles O15: the head record goes, and its slot is settled with one record fewer. -/
theorem popTakesHead : Obligations.PopTakesHead := by
  intro s v port
  have popped {x : State} (h : s.cycleTaken.popRecord = x) : exec (.pop v) s = .next x :=
    h ▸ congrArg _ (portCycle_of_free s _ port)
  refine ⟨fun empty => popped ?_, fun c cs r queue found => popped ?_⟩
  · simp only [State.popRecord, State.req_cycleTaken, empty]
  · have settled : ({ r with recordsPending := r.recordsPending - 1 } : SlotRecord).settled
        (frameStands c.slot s.dlv.requests) =
        if r.state = .done ∧ r.recordsPending ≤ 1 ∧ frameStands c.slot s.dlv.requests = false then none
        else some { r with recordsPending := r.recordsPending - 1 } := by
      simp only [SlotRecord.settled, Nat.sub_eq_zero_iff_le]
    have head : (s.cycleTaken.withReq { s.req with completions := cs }).slot c.slot = some r := found
    simp only [State.popRecord, State.req_cycleTaken, queue, head, State.dlv_cycleTaken, settled]
    rfl

namespace State

/-- At the entry to LEAVING every open slot is lost, no frame standing (R71). -/
theorem slot_enterLeaving (s : State) (u : Tag) :
    s.enterLeaving.slot u = (s.slot u).bind fun r => r.lose u .localLeave false := by
  rw [slot_of_req s.enterLeaving_req, slot_loseSlots]
  have same : s.leaveDelivery.slot u = s.slot u := rfl
  rw [same]
  cases s.slot u <;> rfl

/-- The records the entry to LEAVING posts (R71). -/
theorem completions_enterLeaving (s : State) :
    ∃ lost : List CompletionRecord, s.enterLeaving.req.completions = s.req.completions ++ lost ∧
      ∀ u : Tag, lost.filter (fun c => decide (c.slot = u)) = s.lostRecordsOf u (fun _ => true) .localLeave := by
  rw [enterLeaving_req]
  exact s.leaveDelivery.loseSlots_completions (fun _ => true) .localLeave

/-- With no read stalled the entry to LEAVING leaves the port. -/
theorem port_enterLeaving (s : State) (idle : s.port.window = .idle) : s.enterLeaving.port = s.port :=
  loseSlots_port_idle _ _ _ idle

end State

/-- Settles O14: the queues and the home are emptied first, and then every open slot is lost. -/
theorem leaveEntersLeaving : Obligations.LeaveEntersLeaving := by
  intro s port online
  have submitted : s.cycleTaken.submitLeave = s.cycleTaken.enterLeaving.setResult .leaving := if_pos online
  have left : exec .leave s = .next (s.cycleTaken.enterLeaving.setResult .leaving) :=
    congrArg Host.Outcome.next ((portCycle_of_free s _ port).trans submitted)
  have slot {u : Tag} {r : SlotRecord} (found : s.slot u = some r) :
      s.cycleTaken.enterLeaving.slot u = r.lose u .localLeave false := by
    rw [State.slot_enterLeaving, State.slot_cycleTaken, found, Option.bind_some]
  have dlv : s.cycleTaken.enterLeaving.dlv = s.cycleTaken.leaveDelivery.dlv := State.loseSlots_dlv _ _ _
  refine ⟨_, left, ?_, ?_, ?_, ?_, ?_, ?_, ?_, fun p => ?_, ?_, ?_, ?_,
    fun u r found isOpen => ⟨fun posts => ?_, fun window held releasing => ?_⟩, fun u r found done => ?_,
    fun u free => ?_, s.cycleTaken.completions_enterLeaving⟩
  · exact State.loseSlots_ctl _ _ _
  · exact State.loseSlots_home _ _ _
  · exact congrArg FrameDelivery.requests dlv
  · exact congrArg FrameDelivery.responses dlv
  · exact congrArg FrameDelivery.presenceDue dlv
  · exact congrArg FrameDelivery.leaveDue dlv
  · exact (congrArg FrameDelivery.receive dlv :)
  · exact (congrArg (fun d : FrameDelivery => d.send.get p) dlv).trans (vmapIdx_get _ _ p)
  · exact State.loseSlots_roster _ _ _
  · exact State.loseSlots_bus _ _ _
  · exact congrArg (fun x : LocalPort => { x with result := .leaving }) (State.port_enterLeaving s.cycleTaken port.2)
  · exact (slot found).trans (r.lose_posting u _ _ isOpen posts)
  · exact (slot found).trans (r.lose_quietly u _ _ isOpen window held releasing)
  · exact (slot found).trans (r.lose_done u _ _ done)
  · refine (State.slot_enterLeaving _ u).trans ?_
    rw [State.slot_cycleTaken, free, Option.bind_none]

end Sys2Proof.Machine

/-! # Received responses and resynchronisation (R53, R69, R92 to R95, R128 to R132): O44, O45 -/

namespace Sys2Proof.Machine
namespace State

variable {s : State} {rx : Reception} {f : Frame}

/-- An accepted response is applied (R131). -/
theorem admitFrame_response {b : ResponseBody} (body : f.body = .response b)
    (sync : f.sync = true ∨ (s.peer f.source).syncIn = false) :
    s.admitFrame f.source f = (s.frameTaken f).applyResponse f.source b := by
  rw [admitFrame, body]
  exact (takeFrame_of_sync s f sync).trans (by rw [body]; rfl)

/-- A request finds a free inbound entry and is queued (R128, step 8; R131). -/
theorem admitFrame_request {b : RequestBody} (body : f.body = .request b)
    (sync : f.sync = true ∨ (s.peer f.source).syncIn = false) (room : s.home.inbound.length < 8) :
    s.admitFrame f.source f = { s.frameTaken f with
      home := { s.home with inbound := s.home.inbound ++ [{ source := f.source, body := b }] } } := by
  rw [admitFrame, body]
  refine (if_neg (Nat.not_le_of_lt room)).trans ((takeFrame_of_sync s f sync).trans ?_)
  rw [body]
  rfl

/-- A request finds no free inbound entry and is answered BUSY (R128, step 7). -/
theorem admitFrame_busy {b : RequestBody} (body : f.body = .request b) (full : 8 ≤ s.home.inbound.length) :
    s.admitFrame f.source f = s.answering f .busy := by
  rw [admitFrame, body]
  exact if_pos full

/-- A SYNC frame not awaited, and no repeat, purges its sender before it is admitted (R128, step 6; R129). -/
theorem receiveChecks_resynchronises {p : Station} (present : (s.peer p).state = .present)
    (unawaited : (s.peer p).syncIn = false) (sync : f.sync = true)
    (fresh : s.receiveRecord p ≠ some { sequence := f.sequence, sync := true }) :
    s.receiveChecks p f = (s.purge p .disowned).admitFrame p f := by
  simp only [receiveChecks, present, unawaited, sync, fresh, Bool.false_eq_true, false_and, if_false, and_self, if_true]

/-- A response to a slot that is no longer open is discarded (R54 to R57). -/
theorem applyResponse_closed {source : Station} {b : ResponseBody}
    (closed : ∀ r, s.slot b.tag = some r → r.home = source → r.state = .done) : s.applyResponse source b = s := by
  unfold applyResponse
  split
  · rfl
  · next r found =>
    split
    · rfl
    · next matched =>
      have done := closed r found (not_not.mp (not_or.mp matched).2)
      cases b <;> simp only [done]

/-- A purge leaves no open slot homed at the peer (R69). -/
theorem done_of_purge {p : Station} {c : PurgeCause} {u : Tag} {r : SlotRecord}
    (found : (s.purge p c).slot u = some r) (home : r.home = p) : r.state = .done := by
  rw [slot_purge] at found
  split at found
  · next a _ =>
    split at found
    · simpa [SlotRecord.isOpen] using SlotRecord.isOpen_of_lose found
    · next other =>
      cases found
      exact absurd home other
  · cases found

/-- A frame of a peer to this LEAVING station is answered, and not taken (R132). -/
theorem receive_leaving (can : s.canReceive) (checked : checkFrame false rx = .ok f)
    (body : (∃ b, f.body = .request b) ∨ ∃ b, f.body = .response b) (leaving : s.ctl.state = .leaving)
    (peer : f.source ≠ s.own) (mine : f.addressee = some s.own) :
    s.receive rx = (s.heard f.source).answerWhileLeaving f.source f := by
  have arbitrated : f.body.arbitrated = true := by rcases body with ⟨b, body⟩ | ⟨b, body⟩ <;> rw [body] <;> rfl
  have here : f.addressee = some (s.heard f.source).own := mine
  rw [receive_arbitrated s rx f can checked arbitrated (by simp [leaving]) peer,
    restartSilence_of_heard s _ (.inr leaving), handOn]
  rcases body with ⟨b, body⟩ | ⟨b, body⟩ <;> simp only [ctl_heard, leaving, body, if_pos here]

end State

/-- Settles O45: the receipt's own checks, R128's steps, and the effect of a response on the slot it matches. -/
theorem responseReceiptApplied : Obligations.ResponseReceiptApplied := by
  intro s levels f b can checked body
  have received : exec (.responseFrameReceipt levels) s = .next (s.receive (receptionOf levels)) :=
    congrArg _ (running_of_working s _ can.1)
  have arbitrated : f.body.arbitrated = true := by rw [body]; rfl
  rw [received]
  refine ⟨?_, fun peer => ⟨fun state elsewhere => ?_, fun online mine => ⟨?_, fun inOrder => ⟨_, rfl, ?_⟩⟩⟩⟩
  · refine s.receive_unanswered _ f can checked arbitrated _ fun joining => ?_
    have still : (s.windowOpened (some f.source)).ctl.state = .joining := joining
    simp only [State.handOn, still, body]
  · rw [s.receive_elsewhere _ f can checked (.inr ⟨b, body⟩) state peer elsewhere]
  · rw [s.receive_addressed _ f can checked (.inr ⟨b, body⟩) online peer mine]
    exact s.receiveChecks_discards f
  · have sync : f.sync = true ∨ ((s.heard f.source).peer f.source).syncIn = false := by
      rw [State.peer_syncIn_heard, ← inOrder.2.1]
      cases f.sync <;> simp
    rw [s.receive_addressed _ f can checked (.inr ⟨b, body⟩) online peer mine, s.receiveChecks_of_inOrder f inOrder,
      State.admitFrame_response body sync]
    exact (s.accepted f).responseEffect_applyResponse f.source b

/-- Settles O44: the sender is purged and the frame admitted to what the purge leaves; in LEAVING it is answered. -/
theorem receiptResynchronises : Obligations.ReceiptResynchronises := by
  intro s levels f can checked peer mine
  have request : exec (.requestFrameReceipt levels) s = .next (s.receive (receptionOf levels)) :=
    congrArg _ (running_of_working s _ can.1)
  have response : exec (.responseFrameReceipt levels) s = .next (s.receive (receptionOf levels)) :=
    congrArg _ (running_of_working s _ can.1)
  refine ⟨fun online present unawaited sync fresh => ?_, fun leaving => ⟨fun b body => ?_, fun b body => ?_⟩⟩
  · have purged (body : (∃ b, f.body = .request b) ∨ ∃ b, f.body = .response b) : s.receive (receptionOf levels) =
        ((s.heard f.source).purge f.source .disowned).admitFrame f.source f := by
      rw [s.receive_addressed _ f can checked body online peer mine]
      exact State.receiveChecks_resynchronises (by simpa using present) (by simpa using unawaited) sync fresh
    refine ⟨fun b body => ⟨fun room => ?_, fun full => ?_⟩, fun b body => ?_⟩
    · rw [request, purged (.inl ⟨b, body⟩), State.admitFrame_request body (.inl sync) room]
    · rw [request, purged (.inl ⟨b, body⟩), State.admitFrame_busy body full]
    · rw [response, purged (.inr ⟨b, body⟩), State.admitFrame_response body (.inl sync)]
      exact congrArg _ (State.applyResponse_closed fun r found home => State.done_of_purge found home)
  · rw [request, State.receive_leaving can checked (.inl ⟨b, body⟩) leaving peer mine, State.answerWhileLeaving, body]
    rfl
  · rw [response, State.receive_leaving can checked (.inr ⟨b, body⟩) leaving peer mine, State.answerWhileLeaving, body]
    rfl

end Sys2Proof.Machine

/-! # Frames that leave the outbound queues (R50, R51, R64, R77, R110, R120 to R127): O34, O40, O41

What a slot does when a frame of it has left the queue is said once, for the loopback move and for an ACCEPT alike. -/

namespace Sys2Proof.Machine

/-- The first frame to a destination is the oldest one. -/
theorem oldestRequestTo_split {d : Station} {a b : List OutRequest} {e : OutRequest} (dest : e.destination = d)
    (before : ∀ x ∈ a, x.destination ≠ d) : oldestRequestTo d (a ++ e :: b) = some e :=
  List.find?_eq_some_iff_append.mpr ⟨by simp [dest], a, b, rfl, by simpa using before⟩

/-- The oldest response to a destination is dropped, and no other. -/
theorem dropOldestResponse_split {d : Station} {a b : List OutResponse} {e : OutResponse} (dest : e.destination = d)
    (before : ∀ x ∈ a, x.destination ≠ d) : dropOldestResponse d (a ++ e :: b) = a ++ b := by
  rw [dropOldestResponse, List.eraseP_append_right _ (by simpa using before)]
  exact congrArg _ (List.eraseP_cons_of_pos (by simp [dest]))

namespace State

/-! ## What a slot does when a frame of it has left -/

section Departed

variable (s : State) {t : Tag} {r : SlotRecord} (found : s.slot t = some r)

include found

/-- The ACQUIRE of a PENDING slot with a clear mark makes it WAITING (R51). -/
theorem requestDeparted_waits (pending : r.state = .pending) (clear : r.mark = false) :
    s.requestDeparted t true = s.slotNow t (some { r with state := .waiting }) := by
  simp only [requestDeparted, found, pending, clear, Bool.true_eq_false, Bool.false_eq_true, if_false]
  rfl

/-- With the mark set the slot is CANCELLING, its CANCEL appended (R64). -/
theorem requestDeparted_cancels (pending : r.state = .pending) (marked : r.mark = true)
    (gone : frameStands t s.dlv.requests = false) :
    s.requestDeparted t true = { s.slotNow t (some { r with state := .cancelling, mark := false }) with
      dlv := { s.dlv with requests := s.dlv.requests ++ [{ destination := r.home, body := .cancel r.lock t }] } } := by
  simp only [requestDeparted, found, pending, marked, Bool.true_eq_false, if_false, if_true]
  exact sendOrOwe_sends _ gone

/-- An open slot that is not PENDING has an owed frame appended (R50). -/
theorem requestDeparted_sendOwed (isAcquire : Bool) (pending : r.state ≠ .pending) (done : r.state ≠ .done) :
    s.requestDeparted t isAcquire = s.sendOwed t r := by
  unfold requestDeparted
  cases state : r.state <;> simp [found, state] at pending done ⊢

/-- A DONE slot is FREE when nothing of it is left (R77). -/
theorem requestDeparted_done (isAcquire : Bool) (done : r.state = .done) :
    s.requestDeparted t isAcquire = s.slotNow t (r.doneAfter (frameStands t s.dlv.requests)) := by
  simp only [requestDeparted, found, done, SlotRecord.settled, true_and]
  rfl

end Departed

/-- A slot that owes nothing sends nothing. -/
theorem sendOwed_nothing (s : State) (t : Tag) {r : SlotRecord} (owed : r.owed = none) : s.sendOwed t r = s := by
  simp only [sendOwed, owed]

/-- An owed frame is appended (R50). -/
theorem sendOwed_due (s : State) (t : Tag) {r : SlotRecord} {b : RequestBody} (owed : r.owed = some b) :
    s.sendOwed t r = { s.slotNow t (some { r with owed := none }) with
      dlv := { s.dlv with requests := s.dlv.requests ++ [{ destination := r.home, body := b }] } } := by
  simp only [sendOwed, owed]
  rfl

/-! ## The loopback move (R126) -/

/-- A request of this station stands in its inbound request queue, the outbound request queue as given. -/
def loopedBack (s : State) (body : RequestBody) (requests : List OutRequest) : State :=
  { s with
    home := { s.home with inbound := s.home.inbound ++ [{ source := s.own, body := body }] },
    dlv := { s.dlv with requests := requests } }

/-- The oldest frame to this station moves into its inbound request queue. -/
theorem moveLoopback_moves {s : State} {e : OutRequest} {a b : List OutRequest} (online : s.ctl.state = .online)
    (room : s.home.inbound.length < 8) (queue : s.dlv.requests = a ++ e :: b) (dest : e.destination = s.own)
    (before : ∀ x ∈ a, x.destination ≠ s.own) :
    s.moveLoopback = (s.loopedBack e.body (a ++ b)).requestDeparted e.body.tag e.body.isAcquire := by
  have taken : ¬ (s.ctl.state ≠ .online ∨ Config.inboundEntries ≤ s.home.inbound.length) :=
    not_or.mpr ⟨not_not_intro online, Nat.not_le_of_lt room⟩
  rw [moveLoopback, if_neg taken, queue, oldestRequestTo_split dest before]
  simp only [dropOldestRequest_split dest before]
  rfl

/-- Outside ONLINE, or with no free entry, nothing moves. -/
theorem moveLoopback_stays {s : State} (stays : s.ctl.state ≠ .online ∨ 8 ≤ s.home.inbound.length) :
    s.moveLoopback = s := if_pos stays

end State

/-- Settles O34: the frame moves, and its slot does what the departure asks of its state. -/
theorem loopbackMoves : Obligations.LoopbackMoves := by
  intro s e a b working queue dest before
  have move {x : State} (h : s.moveLoopback = x) : exec .loopbackMove s = .next x :=
    h ▸ congrArg _ (running_of_working s _ working)
  refine ⟨fun online room r found => ?_, fun stays => move (State.moveLoopback_stays stays)⟩
  have moved := State.moveLoopback_moves online room queue dest before
  have there : (s.loopedBack e.body (a ++ b)).slot e.body.tag = some r := found
  refine ⟨fun acquire pending clear => ?_, fun acquire pending marked gone => ?_,
    fun pending done => ⟨fun owed => ?_, fun c owed => ?_⟩, fun done => ?_⟩
  · rw [acquire] at moved
    exact move (moved.trans (State.requestDeparted_waits _ there pending clear))
  · rw [acquire] at moved
    exact move (moved.trans (State.requestDeparted_cancels _ there pending marked gone))
  · exact move (moved.trans ((State.requestDeparted_sendOwed _ there _ pending done).trans
      (State.sendOwed_nothing _ _ owed)))
  · exact move (moved.trans ((State.requestDeparted_sendOwed _ there _ pending done).trans
      (State.sendOwed_due _ _ owed)))
  · exact move (moved.trans (State.requestDeparted_done _ there _ done))

namespace State

/-! ## The close of a window (R100, R110) -/

/-- No window closes when none is open, or a transmission that began in it is in progress. -/
theorem windowCloses_not {s : State} (shut : s.bus.linePhase ≠ .window ∨ s.bus.windowTransmission = true) :
    s.windowCloses = s := by
  refine onlyIf_of_fails _ _ _ ?_
  rintro ⟨window, still⟩
  rcases shut with other | busy
  · exact other window
  · simp [still] at busy

/-- The attempt over, its outcome not yet applied. -/
def landed (s : State) : State := s.withBus { s.bus with attempt := none }

/-- A window that can close does: the attempt ends, and a new cycle begins. -/
theorem exec_windowClose {s : State} (can : s.windowCanClose) :
    exec .windowClose s = .next (s.endAttempt.withBus s.cycleBegun.bus) := by
  obtain ⟨working, window, still⟩ := can
  refine congrArg _ ((running_of_working s _ working).trans ((onlyIf_of_holds _ _ _ ⟨window, still⟩).trans ?_))
  rw [closeWindow, endAttempt_bus, endAttempt_own]
  rfl

/-- The outcome of an attempt in flight is applied as its window closes (R110). -/
theorem exec_windowClose_outcome {s x : State} {a : Attempt} (can : s.windowCanClose)
    (flying : s.bus.attempt = some a) (outcome : s.landed.applyOutcome a = x) :
    exec .windowClose s = .next (x.withBus s.cycleBegun.bus) := by
  have ended : s.endAttempt = s.landed.applyOutcome a := by
    simp only [endAttempt, flying]
    rfl
  rw [exec_windowClose can, ended, outcome]

/-- The outcome of an addressed frame that counts is applied to this frame as the window closes (R110, R120 to R125). -/
theorem exec_windowClose_addressed {s x : State} {a : Attempt} {d : Station} {q : OutQueue} {f : StartedFrame}
    {o : AttemptOutcome} (can : s.windowCanClose) (flying : s.bus.attempt = some a) (kind : a.kind = .addressed d q)
    (counts : a.ignored = false) (started : (s.sendRecord d).started = some f) (outcome : a.outcome = o)
    (applied : s.landed.addressedOutcome d q f o = x) : exec .windowClose s = .next (x.withBus s.cycleBegun.bus) := by
  have still : (s.landed.sendRecord d).started = some f := started
  refine exec_windowClose_outcome can flying ?_
  simp only [applyOutcome, counts, kind, still, outcome, applied, Bool.false_eq_true, if_false]

end State

/-- An addressed frame sent whole is answered as the first ACK says (R109, R110). -/
theorem Attempt.outcome_answered {a : Attempt} {d : Station} {q : OutQueue} {x : AckResult}
    (kind : a.kind = .addressed d q) (whole : a.phase = .sentWhole) (answer : a.answer = some x) :
    a.outcome = .answered x := by
  simp only [outcome, whole, kind, answer]

/-- An addressed frame sent whole with no ACK goes unanswered (R110). -/
theorem Attempt.outcome_noAnswer {a : Attempt} {d : Station} {q : OutQueue} (kind : a.kind = .addressed d q)
    (whole : a.phase = .sentWhole) (answer : a.answer = none) : a.outcome = .noAnswer := by
  simp only [outcome, whole, kind, answer]

theorem Attempt.outcome_collision {a : Attempt} (collided : a.phase = .collision) : a.outcome = .collision := by
  simp only [outcome, collided]

namespace State

/-! ## A frame accepted (R120) -/

/-- The send record of a destination after a frame to it is accepted. -/
def sendAccepted (s : State) (d : Station) (f : StartedFrame) : State :=
  { s.sendNow d { nextSequence := (s.sendRecord d).nextSequence + 1#8, started := none, attempts := 0,
                  lastAnswer := .none, holdOff := (s.sendRecord d).holdOff } with
    roster := if f.sync = true then
        { s.roster with peers := vset s.roster.peers d { s.peer d with syncOut := false } }
      else s.roster }

theorem acceptStarted_eq (s : State) (d : Station) (f : StartedFrame) : s.acceptStarted d f = s.sendAccepted d f := by
  unfold acceptStarted sendAccepted
  cases f.sync <;> rfl

/-- A response accepted leaves its queue. -/
theorem frameAccepted_response {s : State} {d : Station} {f : StartedFrame} {x y : List OutResponse} {e : OutResponse}
    (queue : s.dlv.responses = x ++ e :: y) (dest : e.destination = d) (before : ∀ o ∈ x, o.destination ≠ d) :
    s.frameAccepted d .response f =
      { s.sendAccepted d f with dlv := { (s.sendAccepted d f).dlv with responses := x ++ y } } := by
  have same : (s.sendAccepted d f).dlv.responses = x ++ e :: y := queue
  simp only [frameAccepted, acceptStarted_eq, same, dropOldestResponse_split dest before]
  rfl

/-- A request has been accepted, and its queue is as given. -/
def requestAccepted (s : State) (d : Station) (f : StartedFrame) (requests : List OutRequest) : State :=
  { s.sendAccepted d f with dlv := { (s.sendAccepted d f).dlv with requests := requests } }

/-- A request accepted leaves its queue, and its slot is told. -/
theorem frameAccepted_request {s : State} {d : Station} {f : StartedFrame} {x y : List OutRequest} {e : OutRequest}
    (queue : s.dlv.requests = x ++ e :: y) (dest : e.destination = d) (before : ∀ o ∈ x, o.destination ≠ d) :
    s.frameAccepted d .request f =
      (s.requestAccepted d f (x ++ y)).requestDeparted e.body.tag e.body.isAcquire := by
  have same : (s.sendAccepted d f).dlv.requests = x ++ e :: y := queue
  simp only [frameAccepted, acceptStarted_eq, queue, same, oldestRequestTo_split dest before,
    dropOldestRequest_split dest before]
  rfl

end State

/-- Settles O40: the frame accepted leaves its queue, and its slot does what the departure asks of its state. -/
theorem windowCloseOnAccept : Obligations.WindowCloseOnAccept := by
  intro s a d q f can flying kind whole counts answer started
  have close {x : State} (h : s.landed.frameAccepted d q f = x) :
      exec .windowClose s = .next (x.withBus s.cycleBegun.bus) :=
    State.exec_windowClose_addressed can flying kind counts started (Attempt.outcome_answered kind whole answer) h
  refine ⟨fun x y e response queue dest before => ?_, fun x y e r request queue dest before found => ?_⟩
  · subst response
    exact close (State.frameAccepted_response queue dest before)
  · subst request
    have accepted := State.frameAccepted_request (s := s.landed) (f := f) queue dest before
    have there : (s.landed.requestAccepted d f (x ++ y)).slot e.body.tag = some r := found
    refine ⟨fun pending acquire clear => ?_, fun pending acquire marked gone => ?_,
      fun pending done => ⟨fun owed => ?_, fun b owed => ?_⟩, fun done => ?_⟩
    · rw [acquire] at accepted
      exact close (accepted.trans (State.requestDeparted_waits _ there pending clear))
    · rw [acquire] at accepted
      exact close (accepted.trans (State.requestDeparted_cancels _ there pending marked gone))
    · exact close (accepted.trans ((State.requestDeparted_sendOwed _ there _ pending done).trans
        (State.sendOwed_nothing _ _ owed)))
    · exact close (accepted.trans ((State.requestDeparted_sendOwed _ there _ pending done).trans
        (State.sendOwed_due _ _ owed)))
    · exact close (accepted.trans (State.requestDeparted_done _ there _ done))

namespace State

/-! ## A frame not taken, or unanswered (R121, R123, R127) -/

/-- The started frame of a destination is held off after an answer that did not take it, UNHEARD making a PRESENCE
due (R121). -/
def heldOff (s : State) (d : Station) (answer : LastAnswer) : State :=
  { s with dlv := { s.dlv with
      presenceDue := if answer = .unheard then true else s.dlv.presenceDue,
      send := vset s.dlv.send d { s.sendRecord d with lastAnswer := answer, holdOff := some 1024 } } }

/-- The ACQUIRE frame of a slot, held off for its destination, is withdrawn, a PRESENCE being due or not (R64, R127). -/
def heldOffWithdrawn (s : State) (d : Station) (t : Tag) (due : Bool) : State :=
  { s with dlv := { s.dlv with
      presenceDue := due,
      requests := s.dlv.requests.filter (fun x => decide (x.body.tag ≠ t)),
      send := vset s.dlv.send d { nextSequence := (s.sendRecord d).nextSequence, started := none, attempts := 0,
                                  lastAnswer := .none, holdOff := some 1024 } } }

section NotTaken

variable {s : State} {d : Station} {q : OutQueue} {answer : LastAnswer}
variable (due : answer = .unheard → s.ctl.state ≠ .leaving)

include due

/-- What the answer makes of the send record and the PRESENCE due (R121). -/
theorem heldOff_eq :
    (if answer = .unheard then
        (s.setSend d { s.sendRecord d with lastAnswer := answer, holdOff := some Config.holdOffBits }).setPresenceDue
      else s.setSend d { s.sendRecord d with lastAnswer := answer, holdOff := some Config.holdOffBits }) =
      s.heldOff d answer := by
  unfold heldOff
  split
  · next unheard => exact if_neg (due unheard)
  · rfl

/-- A frame that is no ACQUIRE of a marked slot stands, held off (R121). -/
theorem frameNotTaken_unmarked (unmarked : ∀ e, q = .request → oldestRequestTo d s.dlv.requests = some e →
      s.slotIs e.body.tag (fun r => decide (¬ (r.state = .pending ∧ r.mark = true))) = true) :
    s.frameNotTaken d q answer = s.heldOff d answer := by
  simp only [frameNotTaken, heldOff_eq due]
  split
  · next e oldest =>
    have spared : (s.heldOff d answer).acquireNotTaken e.body.tag = s.heldOff d answer := by
      unfold acquireNotTaken
      split
      · next r _ found _ =>
        exact if_neg (of_decide_eq_true ((s.slotIs_iff _ _).mp (unmarked e rfl oldest) r found))
      all_goals rfl
    rw [spared, ite_self]
  all_goals rfl

/-- The ACQUIRE of a marked slot is withdrawn, and the slot finishes UNSENT (R64, R127). -/
theorem frameNotTaken_marked {f : StartedFrame} {e : OutRequest} {r : SlotRecord}
    (started : (s.sendRecord d).started = some f) (queue : f.queue = .request)
    (oldest : oldestRequestTo d s.dlv.requests = some e)
    (acquire : acquireFrameOf e.body.tag s.dlv.requests = some e) (found : s.slot e.body.tag = some r)
    (pending : r.state = .pending) (marked : r.mark = true) :
    s.frameNotTaken d .request answer =
      (s.heldOffWithdrawn d e.body.tag (if answer = .unheard then true else s.dlv.presenceDue)).finishSlot e.body.tag r
        (cancelRecord e.body.tag r .unsent) := by
  have dest : e.destination = d := by simpa using List.find?_some oldest
  have isAcquire : e.body.isAcquire = true := by simpa using List.find?_some acquire
  have record : (s.heldOff d answer).sendRecord d =
      { s.sendRecord d with lastAnswer := answer, holdOff := some 1024 } := vset_get_self _ _ _
  have standing : (s.heldOff d answer).requestIsStarted e = true := by
    refine requestIsStarted_of_started _ e ⟨f, ?_, queue, dest ▸ oldest⟩
    rw [dest, record, started]
  have there : (s.heldOff d answer).slot e.body.tag = some r := found
  have same : (s.heldOff d answer).dlv.requests = s.dlv.requests := rfl
  have withdrawn : (s.heldOff d answer).withdraw e.body.tag e =
      s.heldOffWithdrawn d e.body.tag (if answer = .unheard then true else s.dlv.presenceDue) := by
    simp only [withdraw, standing, if_true, dest, record]
    simp only [heldOff, heldOffWithdrawn, setSend, withDlv, vset_vset]
  simp only [frameNotTaken, heldOff_eq due, same, oldest, isAcquire, if_true, acquireNotTaken, there, acquire, pending,
    marked, and_self, withdrawAndFinish, withdrawn]

end NotTaken

/-! ## The end of a cancelled slot, by its cause (R57, R61) -/

section Cancelled

variable (s : State) (t : Tag) {r : SlotRecord} (why : Reason)

/-- With the cause SOFTWARE it posts CANCELLED. -/
theorem finishSlot_software (cause : r.cancelCause = .software) :
    s.finishSlot t r (cancelRecord t r why) = s.posting t r .cancelled why 0#16 [] r.ended := by
  simp only [cancelRecord, cause, finishSlot_posting]

/-- With the cause TIMEOUT it posts TIMEOUT. -/
theorem finishSlot_timeout (cause : r.cancelCause = .timeout) :
    s.finishSlot t r (cancelRecord t r why) = s.posting t r .timeout why 0#16 [] r.ended := by
  simp only [cancelRecord, cause, finishSlot_posting]

/-- With the cause WINDOW_LIMIT it posts nothing. -/
theorem finishSlot_windowLimit (gone : frameStands t s.dlv.requests = false) (cause : r.cancelCause = .windowLimit) :
    s.finishSlot t r (cancelRecord t r why) = s.slotNow t (r.endedQuietly false) := by
  simp only [cancelRecord, cause, finishSlot_quietly, gone]

end Cancelled

/-- The ACQUIRE of a marked slot, answered BUSY or UNHEARD, is withdrawn as the window closes (R64, R127). -/
theorem exec_windowClose_withdraws {s y : State} {a : Attempt} {d : Station} {f : StartedFrame} {e : OutRequest}
    {r : SlotRecord} (can : s.windowCanClose) (flying : s.bus.attempt = some a)
    (kind : a.kind = .addressed d .request) (counts : a.ignored = false)
    (started : (s.sendRecord d).started = some f) (whole : a.phase = .sentWhole) (queue : f.queue = .request)
    (oldest : oldestRequestTo d s.dlv.requests = some e)
    (acquire : acquireFrameOf e.body.tag s.dlv.requests = some e) (found : s.slot e.body.tag = some r)
    (pending : r.state = .pending) (marked : r.mark = true)
    (answer : a.answer = some .busy ∨ (a.answer = some .unheard ∧ s.ctl.state ≠ .leaving))
    (finished : (s.landed.heldOffWithdrawn d e.body.tag
        (if a.answer = some .unheard then true else s.dlv.presenceDue)).finishSlot e.body.tag r
      (cancelRecord e.body.tag r .unsent) = y) : exec .windowClose s = .next (y.withBus s.cycleBegun.bus) := by
  have told {x : LastAnswer} (due : x = .unheard → s.ctl.state ≠ .leaving) :=
    frameNotTaken_marked (s := s.landed) due started queue oldest acquire found pending marked
  rw [← finished]
  rcases answer with busy | ⟨unheard, staying⟩
  · rw [busy]
    exact exec_windowClose_addressed can flying kind counts started (Attempt.outcome_answered kind whole busy)
      (told (x := .busy) (by simp))
  · rw [unheard]
    exact exec_windowClose_addressed can flying kind counts started (Attempt.outcome_answered kind whole unheard)
      (told (x := .unheard) fun _ => staying)

/-! ## Broadcasts (R124, R163) -/

section Broadcast

variable {s : State} {a : Attempt} (counts : a.ignored = false)

include counts

/-- A PRESENCE sent whole clears FRESH (R124). -/
theorem applyOutcome_presence_sent (kind : a.kind = .presence) (whole : a.phase = .sentWhole) :
    s.applyOutcome a = s.withRoster { s.roster with fresh := false } := by
  simp only [applyOutcome, counts, kind, Attempt.outcome, whole, Bool.false_eq_true, if_false, reduceCtorEq]

/-- A PRESENCE that met a collision is due again (R124). -/
theorem applyOutcome_presence_collision (kind : a.kind = .presence) (collided : a.phase = .collision)
    (staying : s.ctl.state ≠ .leaving) : s.applyOutcome a = s.withDlv { s.dlv with presenceDue := true } := by
  simp only [applyOutcome, counts, kind, Attempt.outcome_collision collided, Bool.false_eq_true, if_false, if_true,
    setPresenceDue, staying]

/-- A LEAVE sent whole ends LEAVING (R163). -/
theorem applyOutcome_leave_sent (kind : a.kind = .leave) (whole : a.phase = .sentWhole) :
    s.applyOutcome a = s.endLeaving := by
  simp only [applyOutcome, counts, kind, Attempt.outcome, whole, Bool.false_eq_true, if_false, reduceCtorEq]

/-- A LEAVE that met a collision is due again (R124). -/
theorem applyOutcome_leave_collision (kind : a.kind = .leave) (collided : a.phase = .collision) :
    s.applyOutcome a = s.withDlv { s.dlv with leaveDue := true } := by
  simp only [applyOutcome, counts, kind, Attempt.outcome_collision collided, Bool.false_eq_true, if_false, if_true]

end Broadcast

/-- A frame that goes unanswered, with attempts left, is counted (R123). -/
theorem frameUnanswered_counts {s : State} {d : Station} (left : (s.sendRecord d).attempts < 7) :
    s.frameUnanswered d =
      s.sendNow d { s.sendRecord d with attempts := (s.sendRecord d).attempts + 1, lastAnswer := .none } :=
  if_neg (by simp only [Config.maxAttempts]; omega)

end State

/-- Settles O41: the window closes with no attempt, or the outcome decides what the close makes of the frame. -/
theorem windowCloseOtherwise : Obligations.WindowCloseOtherwise := by
  intro s working
  refine ⟨fun shut => congrArg _ ((running_of_working s _ working).trans (State.windowCloses_not shut)),
    fun window still => ?_⟩
  have can : s.windowCanClose := ⟨working, window, still⟩
  refine ⟨fun idle => ?_, fun a flying => ?_⟩
  · have ended : s.endAttempt = s := by simp only [State.endAttempt, idle]
    rw [State.exec_windowClose can, ended]
    rfl
  have close {x : State} (h : s.landed.applyOutcome a = x) := State.exec_windowClose_outcome can flying h
  refine ⟨fun ignored => close (x := s.landed) (if_pos ignored), fun counts =>
    ⟨fun kind whole => ?_, fun kind collided staying => ?_, fun kind collided => ?_,
      fun kind whole => ?_, fun d q f kind started => ?_⟩⟩
  · exact close (State.applyOutcome_presence_sent counts kind whole)
  · exact close (State.applyOutcome_presence_collision (s := s.landed) counts kind collided staying)
  · exact close (State.applyOutcome_leave_collision counts kind collided)
  · refine ⟨_, close (State.applyOutcome_leave_sent counts kind whole), rfl, rfl, rfl, rfl, rfl, rfl, rfl, rfl,
      fun p peer => ?_⟩
    exact (State.peer_everyPeer _ _ p).trans (if_neg peer)
  · have addressed {o : AttemptOutcome} {x : State} (outcome : a.outcome = o)
        (applied : s.landed.addressedOutcome d q f o = x) :=
      State.exec_windowClose_addressed can flying kind counts started outcome applied
    refine ⟨fun whole unmarked => ⟨fun busy => ?_, fun unheard staying => ?_⟩,
      fun e r whole request queue oldest acquire found pending marked answer => ?_, fun lost left => ?_⟩
    · exact addressed (Attempt.outcome_answered kind whole busy)
        (State.frameNotTaken_unmarked (s := s.landed) (by simp) unmarked)
    · exact addressed (Attempt.outcome_answered kind whole unheard)
        (State.frameNotTaken_unmarked (s := s.landed) (fun _ => staying) unmarked)
    · subst request
      have finished {y : State} := State.exec_windowClose_withdraws (y := y) can flying kind counts started whole queue
        oldest acquire found pending marked answer
      exact ⟨fun cause => finished (State.finishSlot_software _ _ _ cause),
        fun cause => finished (State.finishSlot_timeout _ _ _ cause),
        fun cause => finished (State.finishSlot_windowLimit _ _ _ (frameStands_filter _ _) cause)⟩
    · have counted := State.frameUnanswered_counts (s := s.landed) left
      rcases lost with ⟨whole, silent⟩ | collided
      · exact addressed (Attempt.outcome_noAnswer kind whole silent) counted
      · exact addressed (Attempt.outcome_collision collided) counted

end Sys2Proof.Machine

/-! # PRESENCE, LEAVE and request frames received, and the broadcasts sent (R85 to R95, R119, R128, R145 to R150,
R160): O35, O43, O46, O47 -/

namespace Sys2Proof.Machine
namespace State

/-! ## The broadcasts at the own position (R119) -/

section Opportunity

variable {s : State} (here : s.opportunityHere)

include here

/-- An opportunity offered is taken, the counter standing at the own position (R102, R105). -/
theorem exec_sendingOpportunity (sends : s.ctl.state = .online ∨ s.ctl.state = .leaving) :
    exec .sendingOpportunity s = .next s.atOwnPosition.chooseAndSend :=
  congrArg _ ((running_of_working s takeOpportunity here.1).trans
    (onlyIf_of_holds (s.opportunityOffered = true) s _ (decide_eq_true ⟨sends, here.2⟩)))

/-- A PRESENCE that is due goes first (R119, R144). -/
theorem exec_sendingOpportunity_presence (online : s.ctl.state = .online) (due : s.dlv.presenceDue = true) :
    exec .sendingOpportunity s = .next { s.frameBegun .presence s.buildPresence with
      dlv := { s.dlv with presenceDue := false } } := by
  have state : s.atOwnPosition.ctl.state = .online := online
  have still : s.atOwnPosition.dlv.presenceDue = true := due
  rw [exec_sendingOpportunity here (.inl online), chooseAndSend]
  simp only [state, still, if_true]
  rfl

/-- In LEAVING only a LEAVE that is due goes out (R119, R162). -/
theorem exec_sendingOpportunity_leaving (leaving : s.ctl.state = .leaving) :
    exec .sendingOpportunity s = .next (if s.dlv.leaveDue then
      { s.frameBegun .leave (leaveFrame s.own s.ctl.cfg.epoch) with dlv := { s.dlv with leaveDue := false } }
      else s.atOwnPosition) := by
  have state : s.atOwnPosition.ctl.state = .leaving := leaving
  rw [exec_sendingOpportunity here (.inr leaving), chooseAndSend]
  simp only [state]
  rfl

end Opportunity

/-- A station that may not send, or a line that offers no opportunity, sends nothing (R105, R112). -/
theorem exec_sendingOpportunity_not {s : State}
    (barred : ¬ s.opportunityHere ∨ s.ctl.state = .config ∨ s.ctl.state = .joining) :
    exec .sendingOpportunity s = .next s := by
  by_cases working : s.working
  · have idle : s.takeOpportunity = s → exec .sendingOpportunity s = .next s := fun idle =>
      congrArg _ ((running_of_working s takeOpportunity working).trans idle)
    refine idle (onlyIf_of_fails _ _ _ fun offered => ?_)
    obtain ⟨sends, line⟩ := of_decide_eq_true offered
    rcases barred with elsewhere | config | joining
    · exact elsewhere ⟨working, line⟩
    · simp [config] at sends
    · simp [joining] at sends
  · exact congrArg _ (running_of_reset s _ (by simpa using working))

end State

/-- Settles O35: the choice at the own position, by the station state. -/
theorem opportunitySendsBroadcast : Obligations.OpportunitySendsBroadcast := by
  intro s
  refine ⟨fun here online due => ⟨s.syncWaitList, ?_, s.syncWaitList_bit⟩, fun here leaving => ?_,
    State.exec_sendingOpportunity_not⟩
  · exact State.exec_sendingOpportunity_presence here online due
  · rw [State.exec_sendingOpportunity_leaving here leaving]
    refine ⟨fun due => ?_, fun clear => ?_⟩
    · rw [if_pos due]
      rfl
    · rw [clear]
      rfl

/-- A frame in order carries SYNC, or none is awaited (R128, steps 3 and 6). -/
theorem State.sync_of_inOrder {s : State} {f : Frame} (inOrder : s.inOrder f) :
    f.sync = true ∨ ((s.heard f.source).peer f.source).syncIn = false := by
  obtain ⟨_, sync, _⟩ := inOrder
  rw [State.peer_syncIn_heard, ← sync]
  cases f.sync <;> simp

/-- Settles O43: the receipt's own checks, R128's steps, and the inbound request queue. -/
theorem requestReceiptAnswered : Obligations.RequestReceiptAnswered := by
  intro s levels f b can checked body
  have received : exec (.requestFrameReceipt levels) s = .next (s.receive (receptionOf levels)) :=
    congrArg _ (running_of_working s _ can.1)
  have request : (∃ b, f.body = .request b) ∨ ∃ b, f.body = .response b := .inl ⟨b, body⟩
  rw [received]
  refine ⟨?_, fun peer => ⟨fun state elsewhere => ?_, fun online mine => ?_⟩⟩
  · refine s.receive_unanswered _ f can checked (by rw [body]; rfl) _ fun joining => ?_
    have still : (s.windowOpened (some f.source)).ctl.state = .joining := joining
    simp only [State.handOn, still, body]
  · rw [s.receive_elsewhere _ f can checked request state peer elsewhere]
  · rw [s.receive_addressed _ f can checked request online peer mine]
    refine ⟨s.receiveChecks_discards f, fun inOrder => ?_⟩
    rw [s.receiveChecks_of_inOrder f inOrder]
    exact ⟨fun full => congrArg _ (State.admitFrame_busy body full),
      fun room => congrArg _ (State.admitFrame_request body (State.sync_of_inOrder inOrder) room)⟩

namespace State

/-! ## PRESENCE and LEAVE at the roster (R145 to R150) -/

/-- The record of a peer whose PRESENCE has been heard: the state as given, and the epoch it carries (R145, R146). -/
def presenceRecorded (s : State) (p : Station) (epoch : Word) (st : PeerState) : State :=
  s.peerNow p { s.peer p with state := st, epoch := some epoch }

/-- Of two writes of one peer record the later counts. -/
theorem setPeer_setPeer (s : State) (p : Station) (x y : PeerRecord) :
    (s.setPeer p x).setPeer p y = s.setPeer p y := by
  simp only [setPeer, roster_withRoster, withRoster_withRoster, vset_vset]

/-- Moving the peer to a state and recording its epoch are one record. -/
theorem recordEpoch_setPeerState (s : State) (p : Station) (epoch : Word) (st : PeerState) :
    (s.setPeerState p st).recordEpoch p epoch = s.presenceRecorded p epoch st := by
  simp only [recordEpoch, setPeerState, setPeer_setPeer, peer_setPeer]
  rfl

/-- The epoch of a peer that stays in its state. -/
theorem recordEpoch_stays {s : State} {p : Station} (epoch : Word) {st : PeerState} (state : (s.peer p).state = st) :
    s.recordEpoch p epoch = s.presenceRecorded p epoch st := by
  rw [← state]
  rfl

/-- A PRESENCE in JOINING (R145). -/
theorem presenceInJoining_eq (s : State) (p : Station) (epoch digest : Word) :
    s.presenceInJoining p epoch digest =
      s.presenceRecorded p epoch (if digest = s.ctl.digest then .present else .mismatched) := by
  simp only [presenceInJoining, recordEpoch, setPeerState, setPeer_setPeer, peer_setPeer]
  rfl

/-- The epoch of a peer just purged, which stands in its cause's state (R139). -/
theorem recordEpoch_purge (s : State) (p : Station) (c : PurgeCause) (epoch : Word) :
    (s.purge p c).recordEpoch p epoch = (s.purge p c).presenceRecorded p epoch c.stateAfter :=
  recordEpoch_stays epoch (by rw [peer_purge, if_pos rfl])

/-- Without a sync-wait notice nothing is purged (R147). -/
theorem syncWaitNotice_not {s : State} {p : Station} {list : Word}
    (unnoticed : ¬ (list.getLsbD s.own.val = true ∧ (s.peer p).syncOut = false)) : s.syncWaitNotice p list = s :=
  if_neg unnoticed

section PresenceHeard

variable {s : State} {p : Station} {fresh : Bool} {epoch digest list : Word}

/-- With another digest the peer is MISMATCHED, and purged unless it was so before (R146, steps 1 and 2). -/
theorem presenceHeard_otherDigest (other : digest ≠ s.ctl.digest) :
    s.presenceHeard p fresh epoch digest list =
      (if (s.peer p).state = .mismatched then s else s.purge p .mismatch).presenceRecorded p epoch .mismatched := by
  rw [presenceHeard, if_pos other]
  split
  · next mismatched => exact recordEpoch_stays epoch mismatched
  · exact recordEpoch_purge s p .mismatch epoch

/-- With this station's digest a peer that was not PRESENT becomes so, with its epoch (R146, step 3). -/
theorem presenceHeard_appears (same : digest = s.ctl.digest) (absent : (s.peer p).state ≠ .present)
    (unnoticed : ¬ (list.getLsbD s.own.val = true ∧ (s.peer p).syncOut = false)) :
    s.presenceHeard p fresh epoch digest list = s.presenceRecorded p epoch .present := by
  have quiet : ((s.setPeerState p .present).recordEpoch p epoch).syncWaitNotice p list =
      s.presenceRecorded p epoch .present := by
    rw [recordEpoch_setPeerState]
    refine syncWaitNotice_not (fun notice => unnoticed ⟨notice.1, ?_⟩)
    simpa [presenceRecorded, peerNow, peer] using notice.2
  rw [presenceHeard, if_neg (not_not_intro same)]
  split
  · exact quiet
  · exact quiet
  · exact quiet
  · next present => exact absurd present absent

section Present

variable (same : digest = s.ctl.digest) (present : (s.peer p).state = .present)

include same present

/-- A PRESENT peer with another epoch, or with FRESH set, is purged with RESTARTED, and the purge leaves no notice to
heed (R146, step 4; R147). -/
theorem presenceHeard_restarted (restarted : (s.peer p).epoch ≠ some epoch ∨ fresh = true) :
    s.presenceHeard p fresh epoch digest list = (s.purge p .restarted).presenceRecorded p epoch .present := by
  simp only [presenceHeard, same, present, restarted, ne_eq, not_true_eq_false, if_false, if_true]
  rw [recordEpoch_purge]
  refine syncWaitNotice_not (fun notice => ?_)
  simp [presenceRecorded, peerNow, peer, purge_roster] at notice

/-- A PRESENT peer with the epoch it had stays, and only a notice can purge it (R146, step 5; R147). -/
theorem presenceHeard_again (again : (s.peer p).epoch = some epoch) (clear : fresh = false) :
    s.presenceHeard p fresh epoch digest list = s.syncWaitNotice p list := by
  simp only [presenceHeard, same, present, again, clear, ne_eq, not_true_eq_false, if_false, or_self,
    Bool.false_eq_true]

end Present
end PresenceHeard

/-- A PRESENCE or a LEAVE of a peer is handed to the roster (R95). -/
theorem receive_broadcast {s : State} {rx : Reception} {f : Frame} (can : s.canReceive)
    (checked : checkFrame false rx = .ok f) (arbitrated : f.body.arbitrated = true) (peer : f.source ≠ s.own)
    (state : s.ctl.state = .online ∨ s.ctl.state = .leaving) : s.receive rx = (s.heard f.source).handOn f := by
  have listening : s.ctl.state ≠ .joining := by rcases state with state | state <;> simp [state]
  rw [receive_arbitrated s rx f can checked arbitrated listening peer, restartSilence_of_heard s _ state]

end State

/-- Settles O46: the roster's branches, by digest, the peer's state, epoch and FRESH, and the notice. -/
theorem presenceReceiptHeard : Obligations.PresenceReceiptHeard := by
  intro s levels f epoch digest list can checked body recorded
  have received : exec (.presenceReceipt levels) s = .next (s.receive (receptionOf levels)) :=
    congrArg _ (running_of_working s _ can.1)
  have arbitrated : f.body.arbitrated = true := by rw [body]; rfl
  rw [received]
  refine ⟨s.receive_unanswered _ f can checked arbitrated _ fun joining => ?_, fun peer => ?_⟩
  · have still : (s.windowOpened (some f.source)).ctl.state = .joining := joining
    simp only [State.handOn, still, body]
    exact State.presenceInJoining_eq _ _ _ _
  intro notice state
  have heard : s.receive (receptionOf levels) =
      (s.heard f.source).presenceHeard f.source f.fresh epoch digest list := by
    rw [State.receive_broadcast can checked arbitrated peer state]
    rcases state with state | state <;> simp only [State.handOn, State.ctl_heard, state, body]
  have noticed : notice ↔
      list.getLsbD (s.heard f.source).own.val = true ∧ ((s.heard f.source).peer f.source).syncOut = false := by
    rw [State.peer_syncOut_heard]
    exact Iff.rfl
  rw [heard, ← State.peer_state_heard, ← State.peer_epoch_heard, noticed]
  refine ⟨fun same unnoticed => ⟨fun absent => ?_, fun present again clear => ?_⟩, fun same present restarted => ?_,
    fun same given present again clear => ?_, fun other => ⟨fun mismatched => ?_, fun fresh => ?_⟩⟩
  · exact congrArg _ (State.presenceHeard_appears same absent unnoticed)
  · rw [State.presenceHeard_again (s := s.heard f.source) same present again clear, State.syncWaitNotice_not unnoticed]
  · exact congrArg _ (State.presenceHeard_restarted same present restarted)
  · rw [State.presenceHeard_again (s := s.heard f.source) same present again clear]
    exact congrArg _ (if_pos given)
  · rw [State.presenceHeard_otherDigest (s := s.heard f.source) other, if_pos mismatched]
    rfl
  · rw [State.presenceHeard_otherDigest (s := s.heard f.source) other, if_neg fresh]
    rfl

/-- Settles O47: the roster's branches, by the state of the peer that leaves. -/
theorem leaveReceiptHeard : Obligations.LeaveReceiptHeard := by
  intro s levels f epoch can checked body
  have received : exec (.leaveFrameReceipt levels) s = .next (s.receive (receptionOf levels)) :=
    congrArg _ (running_of_working s _ can.1)
  have arbitrated : f.body.arbitrated = true := by rw [body]; rfl
  rw [received]
  refine ⟨s.receive_unanswered _ f can checked arbitrated _ fun joining => ?_, fun peer state => ?_⟩
  · have still : (s.windowOpened (some f.source)).ctl.state = .joining := joining
    simp only [State.handOn, still, body]
    rfl
  have heard : s.receive (receptionOf levels) = (s.heard f.source).leaveHeard f.source := by
    rw [State.receive_broadcast can checked arbitrated peer state]
    rcases state with state | state <;> simp only [State.handOn, State.ctl_heard, state, body]
  rw [heard, State.leaveHeard, State.peer_state_heard]
  refine ⟨?_, fun mismatched => ?_, fun absent => ?_⟩
  · rintro (present | unknown)
    · simp only [present]
    · simp only [unknown]
  · simp only [mismatched]
    rfl
  · simp only [absent]

end Sys2Proof.Machine

/-! # ACKs and malformed transmissions received (R89, R91 to R95, R99 to R101, R109): O48 -/

namespace Sys2Proof.Machine
namespace State

variable {s : State}

/-! ## A transmission that fails its checks (R91, R100, R101) -/

/-- In START-UP no transmission is taken (R112). -/
theorem receive_startUp (rx : Reception) (startUp : s.bus.linePhase = .startUp) : s.receive rx = s :=
  if_pos (.inl startUp)

section Malformed

variable {rx : Reception} {e : CheckFailure} (quiet : s.bus.ownSending = false)

include quiet

/-- Outside a window a malformed transmission opens one, with no reference (R91, R100). -/
theorem receive_malformed_outside (failed : checkFrame false rx = .error e)
    (line : s.bus.linePhase = .cycle ∨ s.bus.linePhase = .frame) : s.receive rx = s.windowOpened none := by
  have taken : ¬ (s.bus.linePhase = .startUp ∨ s.bus.ownSending = true) := by rcases line with h | h <;> simp [h, quiet]
  have outside : decide (s.bus.linePhase = .window) = false := by rcases line with h | h <;> simp [h]
  rw [receive, if_neg taken]
  simp only [outside, failed]
  rcases line with h | h <;>
    simp only [malformed, windowOpened, BusAccess.transmissionReceived, BusAccess.noteTransmission,
      BusAccess.openWindow, BusAccess.endCycle, h, withBus, Bool.false_eq_true, if_false, if_true, reduceCtorEq]

/-- Inside a window a malformed transmission only ends (R101). -/
theorem receive_malformed_inside (failed : checkFrame true rx = .error e) (window : s.bus.linePhase = .window) :
    s.receive rx = s.windowHeard := by
  rw [receive, if_neg (by simp [window, quiet])]
  simp only [window, decide_true, failed, malformed, if_true, BusAccess.transmissionReceived,
    BusAccess.noteTransmission, windowHeard]
  rfl

end Malformed

/-! ## What an ACK makes of the attempt (R89, R109) -/

section Ack

variable {f : Frame} {n : Byte} {r : AckResult} (window : s.bus.linePhase = .window)

include window

/-- The first ACK that answers the attempt in flight is kept as its answer (R109). -/
theorem ackReceived_first {a : Attempt} (flying : s.bus.attempt = some a) (answers : a.answeredBy f s.own n)
    (first : a.answer = none) :
    s.ackReceived f n r = { s with bus := { s.bus with attempt := some { a with answer := some r } } } := by
  simp only [ackReceived, flying]
  exact if_pos ⟨(s.answers_iff a f n window).mpr answers, first⟩

/-- An ACK that is not the first to answer the attempt in flight changes nothing (R109). -/
theorem ackReceived_other
    (other : ∀ a, s.bus.attempt = some a → a.answeredBy f s.own n → a.answer ≠ none) : s.ackReceived f n r = s := by
  unfold ackReceived
  split
  · rfl
  · next a flying =>
    exact if_neg fun kept => other a flying ((s.answers_iff a f n window).mp kept.1) kept.2

end Ack

/-! ## A valid ACK, by its source and the station state (R92 to R95) -/

section AckSource

variable {f : Frame} {n : Byte} {r : AckResult}

/-- One with the own number sets the duplicate-number-seen flag (R92). -/
theorem fromSource_own (own : f.source = s.own) :
    s.fromSource f = { s with ctl := { s.ctl with duplicateSeen := true } } := if_pos own

/-- Before ONLINE an ACK of a peer is handed to nothing (R95). -/
theorem fromSource_ack_unheard (body : f.body = .ack n r) (peer : f.source ≠ s.own)
    (state : s.ctl.state = .config ∨ s.ctl.state = .joining) : s.fromSource f = s := by
  have untimed : s.restartSilence f.source = s := if_neg (by rcases state with h | h <;> simp [h])
  rw [fromSource, if_neg peer, untimed, handOn]
  rcases state with h | h <;> simp only [h, body]

/-- In ONLINE and LEAVING an ACK of a peer restarts its silence timer, and may answer the attempt (R93, R95). -/
theorem fromSource_ack (body : f.body = .ack n r) (peer : f.source ≠ s.own)
    (state : s.ctl.state = .online ∨ s.ctl.state = .leaving) :
    s.fromSource f = (s.silenceRestarted f.source).ackReceived f n r := by
  have timed : s.restartSilence f.source = s.silenceRestarted f.source := if_pos state
  have same : (s.silenceRestarted f.source).ctl.state = s.ctl.state := rfl
  rw [fromSource, if_neg peer, timed, handOn]
  rcases state with h | h <;> simp only [same, h, body]

end AckSource
end State

/-- Settles O48: an ACK by its source, the station state and the attempt in flight; a failed check by the line phase. -/
theorem ackAndMalformedReceipt : Obligations.AckAndMalformedReceipt := by
  intro s working quiet
  have received (rx : Reception) : running s (fun x => x.receive rx) = s.receive rx := running_of_working s _ working
  have malformed {levels : Levels} {x : State} (h : s.receive (receptionOf levels) = x) :
      exec (.malformedFrame levels) s = .next x := h ▸ congrArg _ (received _)
  refine ⟨fun levels f n res window checked body => ?_, fun levels e => ⟨fun failed line => ?_, fun failed window => ?_,
    fun startUp => ?_⟩⟩
  · have ack {x : State} (h : s.windowHeard.fromSource f = x) : exec (.ackReceipt levels) s = .next x :=
      congrArg _ ((received _).trans ((s.receive_ack _ f n res quiet window checked body).trans h))
    refine ⟨fun own => ack (State.fromSource_own own),
      fun peer state => ack (State.fromSource_ack_unheard body peer state), fun peer state => ?_⟩
    intro x
    have answered {y : State} (h : x.ackReceived f n res = y) : exec (.ackReceipt levels) s = .next y :=
      ack ((State.fromSource_ack (s := s.windowHeard) body peer state).trans h)
    have still : x.bus.linePhase = .window := window
    refine ⟨fun a flying answers => ⟨fun first => ?_, fun r kept => ?_⟩, fun unanswered => ?_⟩
    · exact answered (State.ackReceived_first still flying answers first)
    · refine answered (State.ackReceived_other still fun b there _ => ?_)
      cases flying.symm.trans there
      simp [kept]
    · exact answered (State.ackReceived_other still fun a there answers => absurd answers (unanswered a there))
  · exact malformed (State.receive_malformed_outside quiet failed line)
  · exact malformed (State.receive_malformed_inside quiet failed window)
  · exact malformed (State.receive_startUp _ startUp)

end Sys2Proof.Machine

/-! # Frames read back from the line (R79, R90, R97 to R99, R193): O53

Each field reads back from its bytes, so each body does, and so the frame passes the checks of R90 in their order. -/

namespace Sys2Proof.Machine

/-! ## The fields -/

/-- A word reads back from its two bytes (R193). -/
@[simp] theorem wordOf_hiByte_loByte (w : Word) : wordOf (hiByte w) (loByte w) = w := by
  refine BitVec.eq_of_getLsbD_eq fun i inside => ?_
  rw [wordOf, hiByte, loByte]
  by_cases low : i < 8
  · simp [getLsbD_append_low low, low]
  · have high : 8 ≤ i := Nat.le_of_not_lt low
    have small : i - 8 < 8 := by omega
    simp [getLsbD_append_high high, small, Nat.add_sub_cancel' high]

/-- A lock ID reads back. -/
@[simp] theorem lockField_lockWord (l : LockId) : lockField (hiByte (lockWord l)) (loByte (lockWord l)) = some l := by
  have value : (lockWord l).toNat = l.toNat := BitVec.toNat_setWidth_of_le (by omega)
  have fits : (lockWord l).toNat ≤ Config.maxLockId := value ▸ Nat.le_of_lt_succ l.isLt
  rw [lockField, wordOf_hiByte_loByte, if_pos fits]
  exact congrArg some (BitVec.setWidth_setWidth_of_le l (by decide))

/-- A tag reads back. -/
@[simp] theorem tagField_tagByte (t : Tag) : tagField (tagByte t) = some t := by
  have value : (tagByte t).toNat = t.val := toNat_ofNat_of_lt (by omega)
  rw [tagField, value, if_pos (Nat.le_of_lt_succ t.isLt)]
  exact congrArg some (Fin.ext (Nat.mod_eq_of_lt t.isLt))

/-- A generation or an epoch reads back. -/
theorem nonzeroField_of_ne_zero {w : Word} (nonzero : w ≠ 0#16) : nonzeroField (hiByte w) (loByte w) = some w := by
  rw [nonzeroField, wordOf_hiByte_loByte, if_neg nonzero]

/-- The update flag reads back. -/
@[simp] theorem updateField_updateByte (u : Bool) : updateField (updateByte u) = some u := by
  cases u <;> rfl

@[simp] theorem modeOfCode_code (m : LockMode) : modeOfCode m.code.toNat = some m := by cases m <;> rfl
@[simp] theorem waitOfCode_code (w : WaitKind) : waitOfCode w.code.toNat = some w := by cases w <;> rfl
@[simp] theorem denyReasonOfCode_code (r : DenyReason) : denyReasonOfCode r.code.toNat = some r := by cases r <;> rfl
@[simp] theorem releasedOutcomeOfCode_code (o : ReleasedOutcome) : releasedOutcomeOfCode o.code.toNat = some o := by
  cases o <;> rfl
@[simp] theorem cancelledOutcomeOfCode_code (o : CancelledOutcome) : cancelledOutcomeOfCode o.code.toNat = some o := by
  cases o <;> rfl
@[simp] theorem ackResultOfCode_code (r : AckResult) : ackResultOfCode r.code.toNat = some r := by cases r <;> rfl
theorem kindOfCode_code (k : FrameKind) : kindOfCode k.code.toNat = some k := by cases k <;> rfl

/-! ## The first header byte (R81) -/

section KindByte

variable (k : FrameKind) (sync fresh : Bool)

/-- Its high half is the kind. -/
theorem kindOfCode_kindByte : kindOfCode ((kindByte k sync fresh).toNat / 16) = some k := by
  have high : (kindByte k sync fresh).toNat / 16 = k.code.toNat := by
    cases sync <;> cases fresh <;> cases k <;> rfl
  rw [high, kindOfCode_code]

/-- Bit 3 is SYNC. -/
theorem sync_kindByte : (kindByte k sync fresh).getLsbD 3 = sync := by
  rw [kindByte, getLsbD_append_high (by decide), getLsbD_append_high (by decide), getLsbD_append_low (by decide),
    getLsbD_flag sync rfl]

/-- Bit 2 is FRESH. -/
theorem fresh_kindByte : (kindByte k sync fresh).getLsbD 2 = fresh := by
  rw [kindByte, getLsbD_append_high (by decide), getLsbD_append_low (by decide), getLsbD_flag fresh rfl]

end KindByte

/-- The source reads back from its byte. -/
theorem stationOfNat_stationByte (p : Station) : stationOfNat (stationByte p).toNat = p := by
  have value : (stationByte p).toNat = p.val := toNat_ofNat_of_lt (by omega)
  rw [stationOfNat, value]
  exact Fin.ext (Nat.mod_eq_of_lt p.isLt)

/-! ## The body (R83 to R87) -/

/-- What the layouts can carry of a body: a value block of at most 16 bytes, none on a RELEASE without update, and no
generation or epoch 0. -/
def FrameBody.carried : FrameBody → Prop
  | .request (.release _ _ g u v) => g ≠ 0#16 ∧ v.length ≤ Config.valueBytes ∧ (u = false → v = [])
  | .response (.grant _ _ _ g v) => g ≠ 0#16 ∧ v.length ≤ Config.valueBytes
  | .presence e _ _ => e ≠ 0#16
  | .leave e => e ≠ 0#16
  | .request (.acquire _ _ _ _) => True
  | .request (.cancel _ _) => True
  | .response (.deny _ _ _) => True
  | .response (.released _ _ _) => True
  | .response (.cancelled _ _ _) => True
  | .ack _ _ => True

/-- A frame is well-formed when its header is of its kind and its body can be carried. -/
theorem Frame.wf_iff (f : Frame) :
    f.wf = true ↔ headerOk f.body.kind f.destination (stationByte f.source) = true ∧ f.body.carried := by
  rw [Frame.wf, Bool.and_eq_true]
  refine and_congr_right fun _ => ?_
  rcases f.body with (_ | ⟨_, _, g, u, v⟩ | _) | (⟨_, _, _, g, v⟩ | _ | _ | _) | _ | _ | _
  case request.release => cases u <;> simp [FrameBody.carried, and_assoc]
  all_goals simp [FrameBody.carried]

/-- The value length reads back. -/
theorem toNat_lengthByte {v : List Byte} (short : v.length ≤ Config.valueBytes) : (lengthByte v).toNat = v.length :=
  toNat_ofNat_of_lt (by simp only [Config.valueBytes] at short; omega)

namespace FrameBody

variable {b : FrameBody} (carried : b.carried)

include carried

/-- No body is longer than 23 bytes (R79). -/
theorem length_bytes_le : b.bytes.length ≤ Config.maxBody := by
  have two (w : Word) : (wordBytes w).length = 2 := rfl
  rcases b with (_ | ⟨_, _, g, u, v⟩ | _) | (⟨_, _, _, g, v⟩ | _ | _ | _) | _ | _ | _
  case request.release =>
    obtain ⟨_, short, _⟩ := carried
    simp only [Config.valueBytes] at short
    simp only [bytes, List.length_append, two, List.length_cons, List.length_nil, Config.maxBody]
    omega
  case response.grant =>
    obtain ⟨_, short⟩ := carried
    simp only [Config.valueBytes] at short
    simp only [bytes, List.length_append, two, List.length_cons, List.length_nil, Config.maxBody]
    omega
  all_goals simp [bytes, two, Config.maxBody]

/-- A body has the length of its kind (R79; R90, check 4). -/
theorem bodyLengthOk_bytes : bodyLengthOk b.kind b.bytes = true := by
  rcases b with (_ | ⟨_, _, g, u, v⟩ | _) | (⟨_, _, _, g, v⟩ | _ | _ | _) | _ | _ | _
  case request.release =>
    obtain ⟨_, short, _⟩ := carried
    simp [bodyLengthOk, kind, bytes, wordBytes, toNat_lengthByte short, short]
  case response.grant =>
    obtain ⟨_, short⟩ := carried
    simp [bodyLengthOk, kind, bytes, wordBytes, toNat_lengthByte short, short]
  all_goals rfl

/-- A body reads back, every field with the value it was built from (R90, check 7). -/
theorem parseBody_bytes : parseBody b.kind b.bytes = some b := by
  rcases b with (_ | ⟨_, _, g, u, v⟩ | _) | (⟨_, _, _, g, v⟩ | _ | _ | _) | _ | _ | _
  case request.release =>
    obtain ⟨nonzero, _, plain⟩ := carried
    simpa [parseBody, kind, bytes, wordBytes, nonzeroField_of_ne_zero nonzero] using plain
  case response.grant =>
    obtain ⟨nonzero, _⟩ := carried
    simp [parseBody, kind, bytes, wordBytes, nonzeroField_of_ne_zero nonzero]
  case presence => simp [parseBody, kind, bytes, wordBytes, nonzeroField_of_ne_zero carried]
  case leave => simp [parseBody, kind, bytes, wordBytes, nonzeroField_of_ne_zero carried]
  all_goals simp [parseBody, kind, bytes, wordBytes]

end FrameBody

/-! ## The whole frame -/

namespace Frame

variable {f : Frame} (wf : f.wf = true)

include wf

/-- The length byte gives the body's length. -/
theorem toNat_bodyLength : (BitVec.ofNat 8 f.body.bytes.length).toNat = f.body.bytes.length := by
  have short := FrameBody.length_bytes_le (f.wf_iff.mp wf).2
  simp only [Config.maxBody] at short
  exact toNat_ofNat_of_lt (by omega)

/-- The levels of a frame are received as its bytes (R99). -/
theorem receptionOf_levels : receptionOf f.levels = .complete f.bytes := by
  have short := FrameBody.length_bytes_le (f.wf_iff.mp wf).2
  have length : (f.bytes.getD 4 0#8).toNat = f.body.bytes.length := toNat_bodyLength wf
  have all : f.levels = characterLevels delimiter ++ f.bytes.flatMap characterLevels ++ [] := (List.append_nil _).symm
  rw [all]
  refine receptionOf_bytes f.bytes [] (length ▸ short) (length ▸ ?_)
  simp [bytes, coveredBytes, wordBytes]
  omega

/-- The bytes of a frame pass checks 2 to 7 of R90, and give the frame. -/
theorem checkComplete_bytes :
    checkComplete (decide (f.body.kind = .ack)) (kindByte f.body.kind f.sync f.fresh) f.destination
      (stationByte f.source) f.sequence (BitVec.ofNat 8 f.body.bytes.length)
      (f.body.bytes ++ wordBytes (crc16 f.coveredBytes)) = .ok f := by
  obtain ⟨header, carried⟩ := f.wf_iff.mp wf
  have length := (toNat_bodyLength wf).symm
  have placed : placementOk f.body.kind (decide (f.body.kind = .ack)) = true := by
    unfold placementOk
    split <;> simp [*]
  have crc : ¬ wordBytes (crc16 f.coveredBytes) ≠ wordBytes (crc16 f.coveredBytes) := not_not_intro rfl
  simp only [checkComplete, List.take_left' length, List.drop_left' length]
  refine (if_neg crc).trans ?_
  simp only [kindOfCode_kindByte, FrameBody.bodyLengthOk_bytes carried, header, placed,
    FrameBody.parseBody_bytes carried, sync_kindByte, fresh_kindByte, stationOfNat_stationByte, Bool.true_eq_false,
    if_false]

/-- A well-formed frame passes the checks of R90 and is read back from its levels (R79, R97 to R99). -/
theorem checkFrame_levels : checkFrame (decide (f.body.kind = .ack)) (receptionOf f.levels) = .ok f := by
  have length := toNat_bodyLength wf
  have short := FrameBody.length_bytes_le (f.wf_iff.mp wf).2
  rw [receptionOf_levels wf]
  refine (if_pos ⟨length.le.trans short, ?_⟩).trans (checkComplete_bytes wf)
  simp [length, wordBytes]

end Frame

/-! ## Transmissions that are no frame (R99) -/

/-- A transmission with no frame at its head is incomplete. -/
theorem receptionOf_incomplete {levels : Levels} (none : readFrame levels = none) :
    receptionOf levels = .incomplete := by
  rw [receptionOf, none]

/-- A first character that fails begins no frame. -/
theorem readFrame_of_fails {levels : Levels} (fails : readCharacter levels = none) : readFrame levels = none := by
  rw [readFrame, fails]

section Header

variable {bytes : List Byte} (rest : Levels) (header : 5 ≤ bytes.length)

include header

/-- With five characters after the delimiter, the fifth gives the number of the others (R99). -/
theorem readFrame_of_five :
    readFrame (characterLevels delimiter ++ bytes.flatMap characterLevels ++ rest) =
      if Config.maxBody < (bytes.getD 4 0#8).toNat then none
      else (readCharacters ((bytes.getD 4 0#8).toNat + 2) ((bytes.drop 5).flatMap characterLevels ++ rest)).map
        (fun x => (bytes.take 5 ++ x.1, x.2)) := by
  have five : (bytes.take 5).length = 5 := by
    rw [List.length_take]
    omega
  have fifth : (bytes.take 5).getD 4 0#8 = bytes.getD 4 0#8 := by
    simp [List.getD_eq_getElem?_getD]
  rw [levels_split, readFrame_of_header _ _ five, fifth]

/-- A body length above 23 is no frame's. -/
theorem readFrame_of_long (long : Config.maxBody < (bytes.getD 4 0#8).toNat) :
    readFrame (characterLevels delimiter ++ bytes.flatMap characterLevels ++ rest) = none := by
  rw [readFrame_of_five rest header, if_pos long]

/-- A character that fails before the second CRC byte breaks the frame off. -/
theorem readFrame_of_brokenOff (missing : bytes.length < 7 + (bytes.getD 4 0#8).toNat)
    (fails : readCharacter rest = none) :
    readFrame (characterLevels delimiter ++ bytes.flatMap characterLevels ++ rest) = none := by
  have fewer : (bytes.drop 5).length < (bytes.getD 4 0#8).toNat + 2 := by
    rw [List.length_drop]
    omega
  rw [readFrame_of_five rest header, readCharacters_fails _ rest _ fewer fails]
  exact ite_self none

end Header

/-- Settles O53: the round trip of a frame, then each way a transmission is complete or incomplete. -/
theorem frameBytesReadBack : Obligations.FrameBytesReadBack := by
  refine ⟨fun f wf => Frame.checkFrame_levels wf,
    fun bytes rest _ short whole => receptionOf_bytes bytes rest short whole,
    fun first rest other => receptionOf_incomplete (readFrame_of_other first rest other),
    fun bytes rest header long => receptionOf_incomplete (readFrame_of_long rest header long),
    fun levels fails => receptionOf_incomplete (readFrame_of_fails (readCharacter_fails levels fails)),
    fun bytes rest missing fails => receptionOf_incomplete ?_⟩
  have broken := readCharacter_fails rest fails
  by_cases header : 5 ≤ bytes.length
  · exact readFrame_of_brokenOff rest header (by omega) broken
  · exact readFrame_of_short bytes rest (by omega) broken

end Sys2Proof.Machine

/-! # The line's own events (R99 to R112, R122 to R125, R133): O37, O38, O42

With no attempt in flight a purge neither reads nor changes the line, and of the send record of its peer it reads the
next sequence number only; so what the close of a window purges does not depend on the new cycle. -/

namespace Sys2Proof.Machine
namespace State

/-! ## Purges and the line -/

/-- The end of a stalled read has no part in the line. -/
theorem endRead_withBus (s : State) (b : BusAccess) (t : Tag) (w : Word) :
    (s.withBus b).endRead t w = (s.endRead t w).withBus b := by
  have same : (s.withBus b).readStalledFor t = s.readStalledFor t := rfl
  rw [endRead, endRead, same]
  split <;> rfl

/-- The loss of slots has no part in the line. -/
theorem loseSlots_withBus (s : State) (b : BusAccess) (affected : Station → Bool) (why : Reason) :
    (s.withBus b).loseSlots affected why = (s.loseSlots affected why).withBus b := by
  have same (t : Tag) : (s.withBus b).slot t = s.slot t := rfl
  unfold loseSlots
  cases window : s.port.window with
  | idle =>
    simp only [port_withBus, window]
    rfl
  | stalled t n =>
    simp only [port_withBus, window, same]
    cases s.slot t with
    | none => rfl
    | some r =>
      dsimp only
      split
      · exact endRead_withBus (s.withReq _) b t _
      · rfl

/-- With no attempt in flight a purge leaves the line, whatever the line is (R133). -/
theorem purge_withBus (s : State) {b : BusAccess} (quiet : b.attempt = none) (p : Station) (c : PurgeCause) :
    (s.withBus b).purge p c = (s.purge p c).withBus b := by
  have abandoned : { b with attempt := b.attempt.map (·.abandonTo p) } = b := by
    rw [quiet, Option.map_none, ← quiet]
  have delivered : (s.withBus b).purgeDelivery p = (s.purgeDelivery p).withBus b :=
    congrArg (s.purgeDelivery p).withBus abandoned
  rw [purge, delivered]
  exact loseSlots_withBus (((s.purgeDelivery p).purgeRoster p c).purgeHome p) b _ _

/-- Of the send record of its peer a purge reads the next sequence number only (R133). -/
theorem purge_setSend (s : State) {p : Station} {r : SendRecord} (c : PurgeCause)
    (same : r.nextSequence = (s.sendRecord p).nextSequence) : (s.setSend p r).purge p c = s.purge p c := by
  have delivered : (s.setSend p r).purgeDelivery p = s.purgeDelivery p := by
    simp only [purgeDelivery, sendRecord_setSend, SendRecord.purged, same]
    simp only [setSend, withDlv, withBus, vset_vset]
  rw [purge, delivered, purge]

/-- The eighth attempt that goes unanswered purges the destination (R123). -/
theorem frameUnanswered_purges {s : State} {d : Station} (eighth : 7 ≤ (s.sendRecord d).attempts) :
    s.frameUnanswered d = s.purge d .noAnswer :=
  have reached : Config.maxAttempts ≤ (s.sendRecord d).attempts + 1 := Nat.succ_le_succ eighth
  (if_pos reached).trans (s.purge_setSend .noAnswer rfl)

/-- What the attempt's outcome purges as its window closes, the new cycle finds purged (R102, R110). -/
theorem purge_cycleBegun (s : State) (d : Station) (c : PurgeCause) :
    (s.landed.purge d c).withBus s.cycleBegun.bus = s.cycleBegun.purge d c := by
  have landed : s.landed.purge d c = (s.purge d c).withBus s.landed.bus := s.purge_withBus rfl d c
  rw [landed]
  exact (s.purge_withBus rfl d c).symm

end State

/-- Settles O42: the outcome is a REJECT, or the eighth attempt without an answer, and either purges. -/
theorem windowClosePurges : Obligations.WindowClosePurges := by
  intro s a d q f can flying kind counts started
  have purges {o : AttemptOutcome} {c : PurgeCause} (outcome : a.outcome = o)
      (applied : s.landed.addressedOutcome d q f o = s.landed.purge d c) :
      exec .windowClose s = .next (s.cycleBegun.purge d c) :=
    s.purge_cycleBegun d c ▸ State.exec_windowClose_addressed can flying kind counts started outcome applied
  refine ⟨fun whole reject => purges (Attempt.outcome_answered kind whole reject) rfl, fun lost eighth => ?_⟩
  have unanswered := State.frameUnanswered_purges (s := s.landed) eighth
  rcases lost with ⟨whole, silent⟩ | collided
  · exact purges (Attempt.outcome_noAnswer kind whole silent) unanswered
  · exact purges (Attempt.outcome_collision collided) unanswered

namespace State

/-! ## A read-back mismatch (R106 to R108) -/

section Mismatch

variable {s : State} {a : Attempt} {bit : Nat}

/-- A mismatch within the own frame stops it (R106). -/
theorem readBack_frame (flying : s.bus.attempt = some a) (sending : a.phase = .sending)
    (within : bit < a.frame.levels.length) : s.readBack bit = s.frameMismatch a bit := by
  rw [readBack, flying]
  exact if_pos ⟨sending, within⟩

/-- With no own frame going out a mismatch is one of the ACK being sent (R108). -/
theorem readBack_ack (quiet : ∀ a, s.bus.attempt = some a → a.phase ≠ .sending) :
    s.readBack bit = s.ackMismatch bit := by
  unfold readBack
  split
  · next a flying => exact if_neg fun mismatch => quiet a flying mismatch.1
  · rfl

/-- With no ACK being sent there is nothing to stop (log 5). -/
theorem ackMismatch_none (silent : s.bus.ackSending = none) : s.ackMismatch bit = s := by
  rw [ackMismatch, silent]

/-- A mismatch within the ACK stops it; the transmission goes on but for one at the start bit (R107, R108; log 15). -/
theorem ackMismatch_stops {f : Frame} (ack : s.bus.ackSending = some f) (within : bit < f.levels.length) :
    s.ackMismatch bit =
      s.withBus { s.bus with ackSending := none, windowTransmission := decide (0 < bit) } := by
  rw [ackMismatch, ack]
  exact if_pos within

/-- The cycle given back with no attempt in flight, the counter at the own position (R106; log 18). -/
def cycleBack (s : State) : State :=
  s.withBus { s.bus with
    attempt := none, linePhase := .cycle,
    positionCounter := some (ownPositionOf s.own s.bus.reference),
    ownPosition := some (ownPositionOf s.own s.bus.reference) }

/-- After the start bit the attempt goes on as a collision (R106, R107). -/
theorem frameMismatch_later (later : 0 < bit) :
    s.frameMismatch a bit = s.withBus { s.bus with attempt := some { a with phase := .collision } } :=
  if_neg (Nat.ne_of_gt later)

/-- At the start bit the attempt ends as a collision, the cycle given back (R106; log 18). -/
theorem frameMismatch_startBit :
    s.frameMismatch a 0 = s.cycleBack.applyOutcome { a with phase := .collision } := rfl

/-- The collision of an addressed frame whose outcome counts goes unanswered (R123). -/
theorem applyOutcome_addressed_collision {d : Station} {q : OutQueue} {f : StartedFrame} (counts : a.ignored = false)
    (kind : a.kind = .addressed d q) (collided : a.phase = .collision)
    (started : (s.sendRecord d).started = some f) : s.applyOutcome a = s.frameUnanswered d := by
  simp only [applyOutcome, counts, kind, started, Attempt.outcome_collision collided, addressedOutcome,
    Bool.false_eq_true, if_false]

end Mismatch

end State

/-- Settles O37: a mismatch after the start bit marks the attempt, one at the start bit ends it by its kind, and one
with no own frame going out is of the ACK. -/
theorem mismatchStopsSending : Obligations.MismatchStopsSending := by
  intro s bit working
  have meets {x : State} (stopped : s.readBack bit = x) : exec (.readBackMismatch bit) s = .next x :=
    congrArg _ ((running_of_working s _ working).trans stopped)
  refine ⟨fun a flying sending within => ?_, fun quiet => ⟨fun f ack within => ?_, fun silent => ?_⟩⟩
  · have frame := State.readBack_frame flying sending within
    have ends {x : State} (first : bit = 0) (outcome : s.cycleBack.applyOutcome { a with phase := .collision } = x) :
        exec (.readBackMismatch bit) s = .next x := by
      subst first
      exact meets (frame.trans (State.frameMismatch_startBit.trans outcome))
    refine ⟨fun later => meets (frame.trans (State.frameMismatch_later later)),
      fun first counts => ⟨fun kind staying => ?_, fun kind => ?_, fun d q f kind started => ?_⟩,
      fun first ignored => ends first (if_pos ignored)⟩
    · exact ends first (State.applyOutcome_presence_collision (s := s.cycleBack) counts kind rfl staying)
    · exact ends first (State.applyOutcome_leave_collision (s := s.cycleBack) counts kind rfl)
    · have unanswered := State.applyOutcome_addressed_collision (s := s.cycleBack)
        (a := { a with phase := .collision }) counts kind rfl started
      exact ⟨fun left => ends first (unanswered.trans (State.frameUnanswered_counts left)),
        fun eighth => ends first (unanswered.trans (State.frameUnanswered_purges eighth))⟩
  · exact meets ((State.readBack_ack quiet).trans (State.ackMismatch_stops ack within))
  · exact meets ((State.readBack_ack quiet).trans (State.ackMismatch_none silent))

/-! ## The events that move the line phase (R99, R100, R102, R108, R112) -/

namespace BusAccess

variable {b : BusAccess}

/-- The first dominant bit of another transmission ends a cycle (R102). -/
theorem noteTransmission_cycle (cycle : b.linePhase = .cycle) : b.noteTransmission = b.endCycle := by
  simp only [noteTransmission, cycle]

/-- In a window it begins a transmission, with no ACK due or going out any longer (R108; log 15). -/
theorem noteTransmission_window (window : b.linePhase = .window) :
    b.noteTransmission = { b with ackDue := none, ackSending := none, windowTransmission := true } := by
  simp only [noteTransmission, window]

/-- In START-UP it is not taken, and in FRAME it is of the transmission in progress (R99, R112). -/
theorem noteTransmission_other (other : b.linePhase = .startUp ∨ b.linePhase = .frame) : b.noteTransmission = b := by
  rcases other with startUp | frame
  · simp only [noteTransmission, startUp]
  · simp only [noteTransmission, frame]

end BusAccess

namespace State

/-- The own frame's end opens the window with the own number as reference (R100, R104, R106). -/
theorem ownFrameEnds_opens {s : State} {a : Attempt} (flying : s.bus.attempt = some a) (sending : a.phase = .sending) :
    s.ownFrameEnds = { s with bus := { s.bus with
      attempt := some { a with phase := .sentWhole }, reference := some s.own, linePhase := .window,
      windowTransmission := false } } := by
  rw [ownFrameEnds, flying]
  exact if_pos sending

/-- The ACK that is due is begun inside its window, in ONLINE and LEAVING (R108, R112). -/
theorem beginAck_begins {s : State} {f : Frame} (due : s.bus.ackDue = some f) (window : s.bus.linePhase = .window)
    (sends : s.ctl.state = .online ∨ s.ctl.state = .leaving) :
    s.beginAck = { s with bus := { s.bus with ackDue := none, ackSending := some f } } := by
  rw [beginAck, due]
  exact onlyIf_of_holds _ s _ ⟨sends, window⟩

/-- With no ACK due none is begun (log 5). -/
theorem beginAck_none {s : State} (due : s.bus.ackDue = none) : s.beginAck = s := by
  rw [beginAck, due]

/-- START-UP ends with a cycle (R112). -/
theorem endStartUp_begins {s : State} (startUp : s.bus.linePhase = .startUp) :
    s.endStartUp = s.withBus (s.bus.beginCycle s.own) := onlyIf_of_holds _ s _ startUp

/-- Another station's first dominant bit is noted while no own frame goes out (R99). -/
theorem othersBegin_notes {s : State} (quiet : s.bus.ownSending = false) :
    s.othersBegin = s.withBus s.bus.noteTransmission := onlyIf_of_holds _ s _ quiet

end State

/-- Settles O38: each event under its condition, and the first dominant bit of another station by the line phase. -/
theorem linePhaseEvents : Obligations.LinePhaseEvents := by
  intro s working
  have event {f : State → State} {x : State} (done : f s = x) :
      (Host.Outcome.next (running s f) : Result) = .next x :=
    congrArg _ ((running_of_working s f working).trans done)
  refine ⟨fun a flying sending => event (State.ownFrameEnds_opens flying sending),
    fun f due window sends => event (State.beginAck_begins due window sends),
    fun due => event (State.beginAck_none due), fun startUp => event (State.endStartUp_begins startUp), fun quiet => ?_⟩
  have noted {b : BusAccess} (now : s.bus.noteTransmission = b) : exec .transmissionBegin s = .next (s.withBus b) :=
    event ((State.othersBegin_notes quiet).trans (congrArg s.withBus now))
  exact ⟨fun cycle => noted (BusAccess.noteTransmission_cycle cycle),
    fun window => noted (BusAccess.noteTransmission_window window),
    fun other => noted (BusAccess.noteTransmission_other other)⟩

end Sys2Proof.Machine

/-! # The own position (R102, R103): O39

A command taken in a cycle keeps the own position or ends the cycle (`State.KeepsPosition`). Most leave the line
(`State.KeepsLine`); a receipt ends the cycle, and nothing it is handed on to changes the line phase again. -/

namespace Sys2Proof.Machine

/-! ## The position itself (R103) -/

/-- The own position with a known reference, as the model computes it. -/
theorem ownPositionOf_some (own r : Station) : ownPositionOf own (some r) = 1 + (own.val + 15 - r.val) % 16 := rfl

/-- The own position with the reference unknown. -/
theorem ownPositionOf_none (own : Station) : ownPositionOf own none = own.val + 1 := rfl

/-- The own position is 1 plus the distance of the own number after the reference, mod 16 (R103). -/
theorem ownPositionOf_distance (own r : Station) :
    (ownPositionOf own (some r) : Int) = 1 + (((own.val : Int) - r.val - 1) % 16) := by
  rw [ownPositionOf_some]
  omega

/-- The station just after the reference has position 1. -/
theorem ownPositionOf_next (r : Station) : ownPositionOf (r + 1) (some r) = 1 := by
  have next : (r + 1).val = (r.val + 1) % 16 := Fin.val_add r 1
  rw [ownPositionOf_some, next]
  omega

/-- The reference itself has position 16. -/
theorem ownPositionOf_self (r : Station) : ownPositionOf r (some r) = 16 := by
  rw [ownPositionOf_some]
  omega

/-- Stations with the same reference, known or unknown, have different positions. -/
theorem ownPositionOf_injective {own other : Station} {reference : Option Station}
    (same : ownPositionOf own reference = ownPositionOf other reference) : own = other := by
  refine Fin.ext ?_
  cases reference with
  | none => exact Nat.succ.inj same
  | some r =>
    rw [ownPositionOf_some, ownPositionOf_some] at same
    omega

namespace State

/-! ## The line phase after a receipt -/

theorem KeepsLine.linePhase {s x : State} (k : s.KeepsLine x) : x.bus.linePhase = s.bus.linePhase := by
  obtain ⟨_, _, f, _, bus⟩ := k
  rw [bus]

theorem KeepsLine.ownPosition {s x : State} (k : s.KeepsLine x) : x.bus.ownPosition = s.bus.ownPosition := by
  obtain ⟨_, _, f, _, bus⟩ := k
  rw [bus]

section Phase

variable (s : State) (p : Station) (f : Frame)

theorem takeFrame_linePhase : (s.takeFrame p f).bus.linePhase = s.bus.linePhase := by
  unfold takeFrame
  dsimp only
  rw [dispatch_bus]
  split <;> rfl

theorem admitFrame_linePhase : (s.admitFrame p f).bus.linePhase = s.bus.linePhase := by
  unfold admitFrame
  split
  · split
    · rfl
    · exact s.takeFrame_linePhase p f
  · exact s.takeFrame_linePhase p f
  all_goals rfl

theorem receiveChecks_linePhase : (s.receiveChecks p f).bus.linePhase = s.bus.linePhase := by
  unfold receiveChecks
  split
  · rfl
  · rfl
  · rfl
  · split
    · rfl
    · split
      · rfl
      · split
        · exact (admitFrame_linePhase _ p f).trans (KeepsLine.purge s p .disowned).linePhase
        · exact s.admitFrame_linePhase p f

theorem answerWhileLeaving_linePhase : (s.answerWhileLeaving p f).bus.linePhase = s.bus.linePhase := by
  unfold answerWhileLeaving
  split <;> rfl

/-- A valid frame is handed on within its line phase (R95). -/
theorem handOn_linePhase : (s.handOn f).bus.linePhase = s.bus.linePhase := by
  unfold handOn
  dsimp only
  split
  · rfl
  · split <;> rfl
  · split
    · split
      · exact s.receiveChecks_linePhase _ f
      · rfl
    · split
      · exact s.receiveChecks_linePhase _ f
      · rfl
    · exact (KeepsLine.presenceHeard s _ _ _ _ _).linePhase
    · exact (KeepsLine.leaveHeard s _).linePhase
    · exact (KeepsLine.ackReceived s f _ _).linePhase
  · split
    · split
      · exact s.answerWhileLeaving_linePhase _ f
      · rfl
    · split
      · exact s.answerWhileLeaving_linePhase _ f
      · rfl
    · exact (KeepsLine.presenceHeard s _ _ _ _ _).linePhase
    · exact (KeepsLine.leaveHeard s _).linePhase
    · exact (KeepsLine.ackReceived s f _ _).linePhase

theorem fromSource_linePhase : (s.fromSource f).bus.linePhase = s.bus.linePhase := by
  unfold fromSource
  split
  · rfl
  · exact (handOn_linePhase _ f).trans (KeepsLine.restartSilence s f.source).linePhase

/-- An arbitrated frame ends in a window, and any other in the line phase it was received in (R94, R100). -/
theorem validFrame_linePhase :
    (s.validFrame f).bus.linePhase = if f.body.arbitrated then .window else s.bus.linePhase := by
  have opened := (s.arbitratedEnds f).fromSource_linePhase f
  unfold validFrame
  split
  · dsimp only
    split
    · exact (KeepsLine.enterOnline _).linePhase.trans opened
    · exact opened
  · exact s.fromSource_linePhase f

end Phase

/-- A transmission received in a cycle ends it (R99, R100, R102). -/
theorem receive_ends_cycle {s : State} (cycle : s.bus.linePhase = .cycle) (quiet : s.bus.ownSending = false)
    (rx : Reception) : (s.receive rx).bus.linePhase ≠ .cycle := by
  have received : s.bus.transmissionReceived.linePhase = .frame := by
    rw [BusAccess.transmissionReceived, BusAccess.noteTransmission_cycle cycle]
    rfl
  have outside : decide (s.bus.linePhase = .window) = false := by rw [cycle]; rfl
  have taken : ¬ (s.bus.linePhase = .startUp ∨ s.bus.ownSending = true) := by simp [cycle, quiet]
  unfold receive
  rw [if_neg taken, outside]
  dsimp only
  split
  · exact nofun
  · rw [validFrame_linePhase, bus_withBus, received]
    split <;> exact nofun

/-! ## Commands in a cycle -/

/-- A cycle that goes on goes on with the own position it had (R103). -/
def KeepsPosition (s x : State) : Prop := x.bus.linePhase = .cycle → x.bus.ownPosition = s.bus.ownPosition

namespace KeepsPosition

variable {s x : State}

theorem of_position (same : x.bus.ownPosition = s.bus.ownPosition) : s.KeepsPosition x := fun _ => same

theorem of_keepsLine (k : s.KeepsLine x) : s.KeepsPosition x := of_position k.ownPosition

theorem of_ctl (ctl : x.ctl = s.ctl) (bus : x.bus = s.bus) : s.KeepsPosition x := of_keepsLine (.of_ctl ctl bus)

theorem of_ended (ended : x.bus.linePhase ≠ .cycle) : s.KeepsPosition x := fun cycle => absurd cycle ended

theorem refl (s : State) : s.KeepsPosition s := of_position rfl

theorem onlyIf {c : Prop} [Decidable c] {f : State → State} (kept : c → s.KeepsPosition (f s)) :
    s.KeepsPosition (onlyIf c s f) := by
  unfold Machine.onlyIf
  split
  · next holds => exact kept holds
  · exact refl s

theorem running {f : State → State} (kept : s.KeepsPosition (f s)) : s.KeepsPosition (running s f) := by
  unfold Machine.running
  split
  · exact refl s
  · exact kept

theorem portCycle {f : State → State} (kept : ∀ y : State, y.KeepsLine (f y)) : s.KeepsPosition (portCycle s f) := by
  unfold Machine.portCycle
  split
  · exact refl s
  · exact of_keepsLine ((KeepsLine.withPort s _).trans (kept _))

/-- An opportunity is passed up, or a frame ends the cycle (R102, R105). -/
theorem chooseAndSend (s : State) : s.KeepsPosition s.chooseAndSend := by
  unfold State.chooseAndSend
  split
  · split
    · exact of_ended nofun
    · split
      · exact of_ended nofun
      · split
        · exact of_ended nofun
        · exact refl s
  · split
    · exact of_ended nofun
    · exact refl s
  · exact refl s
  · exact refl s

theorem takeOpportunity (s : State) : s.KeepsPosition s.takeOpportunity := onlyIf fun _ => chooseAndSend s.atOwnPosition

/-- A mismatch on an ACK has no part in the cycle (R108). -/
theorem ackMismatch (s : State) (bit : Nat) : s.KeepsPosition (s.ackMismatch bit) := by
  unfold State.ackMismatch
  split
  · split
    · exact of_position rfl
    · exact refl s
  · exact refl s

/-- With no attempt in flight a mismatch is of no own frame (R106). -/
theorem readBack (idle : s.bus.attempt = none) (bit : Nat) : s.KeepsPosition (s.readBack bit) := by
  rw [readBack_ack (by simp [idle])]
  exact ackMismatch s bit

/-- An own frame that ends opens a window (R100, R106). -/
theorem ownFrameEnds (s : State) : s.KeepsPosition s.ownFrameEnds := by
  unfold State.ownFrameEnds
  split
  · split
    · exact of_ended nofun
    · exact refl s
  · exact refl s

theorem beginAck (s : State) : s.KeepsPosition s.beginAck := by
  unfold State.beginAck
  split
  · exact refl s
  · exact onlyIf fun _ => of_position rfl

section Cycle

variable (cycle : s.bus.linePhase = .cycle)

include cycle

/-- In a cycle no window closes. -/
theorem windowCloses : s.KeepsPosition s.windowCloses :=
  onlyIf fun closes => absurd (cycle.symm.trans closes.1) nofun

/-- In a cycle START-UP is over. -/
theorem endStartUp : s.KeepsPosition s.endStartUp :=
  onlyIf fun startUp => absurd (cycle.symm.trans startUp) nofun

/-- Another station's first dominant bit ends the cycle (R102). -/
theorem othersBegin : s.KeepsPosition s.othersBegin := onlyIf fun _ => of_ended (by
  rw [bus_withBus, BusAccess.noteTransmission_cycle cycle]
  exact nofun)

variable (idle : s.bus.attempt = none)

include idle

theorem receive (rx : Reception) : s.KeepsPosition (s.receive rx) :=
  of_ended (receive_ends_cycle cycle (by rw [BusAccess.ownSending, idle]) rx)

/-- Every command taken in a cycle keeps the own position or ends the cycle. -/
theorem exec (i : Instr) (done : exec i s = .next x) : s.KeepsPosition x := by
  cases i <;> cases done
  case acquire | release | cancel => exact portCycle fun y => .of_ctl (by simp) (by simp)
  case start => exact portCycle KeepsLine.submitStart
  case leave => exact portCycle KeepsLine.submitLeave
  case pop => exact portCycle fun _ => .of_serves .popRecord
  case interruptEnable => exact portCycle fun y => .withPort y _
  case registerWrite a v => exact portCycle fun y => KeepsLine.writeWord y a v
  case acquireWindowRead | releaseWindowWrite => exact portCycle fun y => .of_ctl (by simp) (by simp)
  case readStrobeWithdrawal | windowWaitLimitExpiry => exact running (of_ctl (by simp) (by simp))
  case powerOnReset | portReset => exact of_ended nofun
  case portResetRelease => exact onlyIf fun _ => of_position rfl
  case acquireAtHome | releaseAtHome | cancelAtHome | walkStep | loopbackMove =>
    exact running (of_ctl (by simp) (by simp))
  case sendingOpportunity => exact running (takeOpportunity s)
  case readBackMismatch bit => exact running (readBack idle bit)
  case ownTransmissionEnd => exact running (ownFrameEnds s)
  case windowClose => exact running (windowCloses cycle)
  case ackTransmission => exact running (beginAck s)
  case startupLineIdle => exact running (endStartUp cycle)
  case transmissionBegin => exact running (othersBegin cycle)
  case requestFrameReceipt | responseFrameReceipt | presenceReceipt | leaveFrameReceipt | ackReceipt | malformedFrame =>
    exact running (receive cycle idle _)
  case slotTimerExpiry t => exact running (of_keepsLine (.slotTimeout s t))
  case holdOffExpiry d => exact running (of_keepsLine (.ite (.setSend s d _) (.refl s)))
  case presenceTimerExpiry => exact running (of_keepsLine (.presenceTimeout s))
  case silenceTimerExpiry p => exact running (of_keepsLine (.silenceTimeout s p))
  case listenTimerExpiry => exact running (of_keepsLine (.ite (.enterOnline s) (.refl s)))
  case leavingTimerExpiry => exact running (of_keepsLine (.ite (.endLeaving s) (.refl s)))

end Cycle

end KeepsPosition
end State

/-- Settles O39: R103's sum, the two events that begin a cycle, and the commands taken within one. -/
theorem ownPosition : Obligations.OwnPosition := by
  refine ⟨fun own => ⟨ownPositionOf_none own, fun r => ?_⟩, fun _ _ _ => ownPositionOf_injective,
    ⟨1, 0, 0, by decide, by decide⟩, fun s working => ⟨fun can _ => ?_, fun startUp => ?_⟩,
    fun c s t inv cycle done => ?_⟩
  · obtain ⟨least, most⟩ := ownPositionOf_bounds own (some r)
    refine ⟨ownPositionOf_distance own r, least, most, fun next => ?_, fun self => ?_⟩
    · rw [next, ownPositionOf_next]
    · rw [self, ownPositionOf_self]
  · exact ⟨_, State.exec_windowClose can, rfl, rfl⟩
  · have begun : exec .startupLineIdle s = .next (s.withBus (s.bus.beginCycle s.own)) :=
      congrArg _ ((running_of_working s _ working).trans (State.endStartUp_begins startUp))
    exact ⟨_, begun, rfl, rfl⟩
  · have idle : s.bus.attempt = none :=
      (s.lineLawful_iff.mpr inv).bus.no_attempt (by simp [cycle]) (by simp [cycle])
    exact State.KeepsPosition.exec cycle idle c done

end Sys2Proof.Machine

/-! # The choice of an addressed frame, and the two timers of the life cycle (R117 to R119, R135, R148, R157, R160 to
R163): O36, O52 -/

namespace Sys2Proof.Machine
namespace State

/-! ## The oldest frame that may be sent (R118) -/

section Choice

variable {α : Type} {s : State} {q : OutQueue} {destination : α → Station} {l : List α}

/-- A frame that may be sent, behind only frames that may not, is the one found. -/
theorem find?_mayStart_oldest {older younger : List α} {e : α} (queue : l = older ++ e :: younger)
    (held : ∀ x ∈ older, ¬ s.frameReady q (destination x)) (ready : s.frameReady q (destination e)) :
    l.find? (fun x => s.mayStart q (destination x)) = some e := by
  refine List.find?_eq_some_iff_append.mpr ⟨(s.mayStart_iff q _).mpr ready, older, younger, queue, fun x among => ?_⟩
  simpa only [← s.mayStart_iff q, Bool.not_eq_true, Bool.not_eq_true'] using held x among

/-- When no frame may be sent none is found. -/
theorem find?_mayStart_none (held : ∀ x ∈ l, ¬ s.frameReady q (destination x)) :
    l.find? (fun x => s.mayStart q (destination x)) = none :=
  List.find?_eq_none.mpr fun x among may => held x among ((s.mayStart_iff q _).mp may)

end Choice

/-! ## The attempt of an addressed frame (R117, R119) -/

section Addressed

variable {s : State} {q : OutQueue} {d : Station} {b : FrameBody}

/-- Writing back a send record as it stands changes nothing. -/
theorem sendNow_self (s : State) (d : Station) : s.sendNow d (s.sendRecord d) = s :=
  congrArg (fun v => s.withDlv { s.dlv with send := v }) (vset_self s.dlv.send d)

/-- An attempt at the own position sends the destination's started frame and writes its send record (R105, R117). -/
theorem attemptAddressed_atOwnPosition : s.atOwnPosition.attemptAddressed q d b =
    (s.frameBegun (.addressed d q)
      (addressedFrame s.own d (s.startedFor q d).sequence (s.startedFor q d).sync b)).sendNow d (s.startRecord q d) :=
  rfl

/-- A started frame keeps its sequence number and SYNC flag, and the send record stays (R117). -/
theorem attemptAddressed_started {f : StartedFrame} (started : (s.sendRecord d).started = some f) :
    s.atOwnPosition.attemptAddressed q d b =
      s.frameBegun (.addressed d q) (addressedFrame s.own d f.sequence f.sync b) := by
  have frame : s.startedFor q d = f := by simp only [startedFor, started]
  have record : s.startRecord q d = s.sendRecord d := by simp only [startRecord, started]
  rw [attemptAddressed_atOwnPosition, frame, record]
  exact sendNow_self (s.frameBegun _ _) d

/-- A frame not yet started takes the next sequence number and the sync-out flag (R117). -/
theorem attemptAddressed_starts (idle : (s.sendRecord d).started = none)
    (released : (s.sendRecord d).holdOff = none) :
    s.atOwnPosition.attemptAddressed q d b =
      (s.frameBegun (.addressed d q)
        (addressedFrame s.own d (s.sendRecord d).nextSequence (s.peer d).syncOut b)).sendNow d
        { nextSequence := (s.sendRecord d).nextSequence,
          started := some { queue := q, sequence := (s.sendRecord d).nextSequence, sync := (s.peer d).syncOut },
          attempts := 0, lastAnswer := .none, holdOff := none } := by
  have frame : s.startedFor q d =
      { queue := q, sequence := (s.sendRecord d).nextSequence, sync := (s.peer d).syncOut } := by
    simp only [startedFor, idle]
  have record : s.startRecord q d =
      { nextSequence := (s.sendRecord d).nextSequence, started := some (s.startedFor q d), attempts := 0,
        lastAnswer := .none, holdOff := none } := by
    simp only [startRecord, idle, released]
  rw [attemptAddressed_atOwnPosition, record, frame]

end Addressed

/-! ## The choice at the own position (R119) -/

section Opportunity

variable {s : State} (here : s.opportunityHere) (online : s.ctl.state = .online)
  (clear : s.dlv.presenceDue = false)

include here online clear

/-- With no PRESENCE due the oldest eligible response goes out, else the oldest eligible request, else nothing. -/
theorem exec_sendingOpportunity_addressed :
    exec .sendingOpportunity s = .next (
      match s.eligibleResponse, s.eligibleRequest with
      | some e, _ => s.atOwnPosition.attemptAddressed .response e.destination (.response e.body)
      | none, some e => s.atOwnPosition.attemptAddressed .request e.destination (.request e.body)
      | none, none => s.atOwnPosition) := by
  have state : s.atOwnPosition.ctl.state = .online := online
  have still : s.atOwnPosition.dlv.presenceDue = false := clear
  have response : s.atOwnPosition.eligibleResponse = s.eligibleResponse := rfl
  have request : s.atOwnPosition.eligibleRequest = s.eligibleRequest := rfl
  rw [exec_sendingOpportunity here (.inl online), chooseAndSend]
  simp only [state, still, response, request, Bool.false_eq_true, if_false]
  cases s.eligibleResponse <;> cases s.eligibleRequest <;> rfl

end Opportunity
end State

/-- Settles O36: the queue's oldest frame that may be sent is the one chosen, and its send record says whether it is
started. -/
theorem opportunityStartsFrame : Obligations.OpportunityStartsFrame := by
  intro s here online clear sent
  have sends {q : OutQueue} {d : Station} (b : FrameBody) (ready : s.frameReady q d) :
      sent d q b (s.atOwnPosition.attemptAddressed q d b) := by
    obtain ⟨_, _, released, _⟩ := ready
    exact ⟨fun f started => State.attemptAddressed_started started,
      fun idle => State.attemptAddressed_starts idle released⟩
  rw [State.exec_sendingOpportunity_addressed here online clear]
  refine ⟨fun a b e queue held ready => ?_, fun noResponse => ⟨fun a b e queue held ready => ?_, fun noRequest => ?_⟩⟩
  · have chosen : s.eligibleResponse = some e := State.find?_mayStart_oldest queue held ready
    rw [chosen]
    exact ⟨_, rfl, sends _ ready⟩
  · have passed : s.eligibleResponse = none := State.find?_mayStart_none noResponse
    have chosen : s.eligibleRequest = some e := State.find?_mayStart_oldest queue held ready
    rw [passed, chosen]
    exact ⟨_, rfl, sends _ ready⟩
  · have passed : s.eligibleResponse = none := State.find?_mayStart_none noResponse
    have empty : s.eligibleRequest = none := State.find?_mayStart_none noRequest
    rw [passed, empty]
    rfl

namespace State

/-! ## The listen timer and the leaving timer (R160, R163) -/

section Timers

variable {s : State} {n : Nat} (working : s.working)

include working

/-- A listen timer that runs out in JOINING enters ONLINE (R160). -/
theorem exec_listenTimerExpiry (joining : s.ctl.state = .joining) (runs : s.ctl.listenTimer = some n) :
    exec .listenTimerExpiry s = .next s.enterOnline :=
  have expires : s.listenTimeout = s.enterOnline := onlyIf_of_holds _ s _ ⟨joining, by rw [runs]; rfl⟩
  congrArg _ ((running_of_working s _ working).trans expires)

/-- A leaving timer that runs out in LEAVING ends it (R163). -/
theorem exec_leavingTimerExpiry (leaving : s.ctl.state = .leaving) (runs : s.ctl.leavingTimer = some n) :
    exec .leavingTimerExpiry s = .next s.endLeaving :=
  have expires : s.leavingTimeout = s.endLeaving := onlyIf_of_holds _ s _ ⟨leaving, by rw [runs]; rfl⟩
  congrArg _ ((running_of_working s _ working).trans expires)

end Timers

/-- The end of LEAVING stops the silence timer of every peer, and changes no more of its record (R148). -/
theorem peer_endLeaving (s : State) {p : Station} (other : p ≠ s.own) :
    s.endLeaving.peer p = { s.peer p with silenceTimer := none } :=
  (peer_everyPeer _ _ p).trans (if_neg other)

end State

/-- Settles O52: each timer's expiry is the entry to ONLINE, or the end of LEAVING, block by block. -/
theorem listenAndLeavingExpiry : Obligations.ListenAndLeavingExpiry := by
  intro s n working
  refine ⟨fun joining runs => ?_, fun leaving runs => ?_⟩
  · exact ⟨_, State.exec_listenTimerExpiry working joining runs, s.enterOnline_entersOnline⟩
  · exact ⟨_, State.exec_leavingTimerExpiry working leaving runs, rfl, s.endLeaving_home, s.endLeaving_req,
      s.endLeaving_port, rfl, rfl, rfl, rfl, fun _ => s.peer_endLeaving⟩

end Sys2Proof.Machine

/-! # The silence timer of a peer (R69, R125, R133, R148, R149): O51 -/

namespace Sys2Proof.Machine
namespace State

/-! ## What a purge leaves of a peer -/

section Purge

variable {a : Attempt} {q : OutQueue} (s : State) (p : Station) (c : PurgeCause)

/-- A purge leaves no request to the peer in the outbound queue (R133). -/
theorem requests_purge_destination : ∀ e ∈ (s.purge p c).dlv.requests, e.destination ≠ p := by
  rw [purge_dlv]
  exact fun _ among => of_decide_eq_true (List.mem_filter.mp among).2

/-- A purge leaves no response to the peer in the outbound queue (R133). -/
theorem responses_purge_destination : ∀ e ∈ (s.purge p c).dlv.responses, e.destination ≠ p := by
  rw [purge_dlv]
  exact fun _ among => of_decide_eq_true (List.mem_filter.mp among).2

/-- A purge leaves the outcome of an attempt to the peer ignored (R125). -/
theorem attempt_purge_addressed (sending : s.bus.attempt = some a) (kind : a.kind = .addressed p q) :
    (s.purge p c).bus.attempt = some { a with ignored := true } := by
  have abandoned : a.abandonTo p = { a with ignored := true } := by
    simp only [Attempt.abandonTo, kind, if_true]
  simp only [purge_bus, sending, Option.map_some, abandoned]

end Purge

/-! ## The expiry (R149) -/

/-- The silence timer of peer p is absent. -/
def silenceStopped (s : State) (p : Station) : State := s.setPeer p { s.peer p with silenceTimer := none }

theorem peer_silenceStopped (s : State) (p : Station) :
    (s.silenceStopped p).peer p = { s.peer p with silenceTimer := none } :=
  peer_setPeer s p _

section Silent

variable {s : State} {p : Station}

/-- A silent peer that is PRESENT or UNKNOWN is purged. -/
theorem peerSilent_purges (linked : (s.peer p).state = .present ∨ (s.peer p).state = .unknown) :
    s.peerSilent p = s.purge p .silence := by
  rcases linked with state | state <;> simp only [peerSilent, state]

/-- A silent peer that is MISMATCHED becomes ABSENT, and nothing is purged. -/
theorem peerSilent_mismatched (state : (s.peer p).state = .mismatched) :
    s.peerSilent p = s.setPeer p { s.peer p with state := .absent } := by
  simp only [peerSilent, state]

/-- A silent peer that is ABSENT stays so. -/
theorem peerSilent_absent (state : (s.peer p).state = .absent) : s.peerSilent p = s := by
  simp only [peerSilent, state]

end Silent

/-- A silence timer that runs out is absent, and the roster acts by the peer's state. -/
theorem exec_silenceTimerExpiry {s : State} {p : Station} {n : Nat} (working : s.working) (other : p ≠ s.own)
    (serving : s.ctl.state = .online ∨ s.ctl.state = .leaving) (runs : (s.peer p).silenceTimer = some n) :
    exec (.silenceTimerExpiry p) s = .next ((s.silenceStopped p).peerSilent p) :=
  have expires : s.silenceTimeout p = (s.silenceStopped p).peerSilent p :=
    onlyIf_of_holds _ s _ ⟨other, serving, by rw [runs]; rfl⟩
  congrArg _ ((running_of_working s _ working).trans expires)

end State

/-- Settles O51, by the state of the peer whose timer has stopped. -/
theorem silenceTimerExpiry : Obligations.SilenceTimerExpiry := by
  intro s p n working other serving runs stopped
  have expiry {x : State} (h : stopped.peerSilent p = x) : exec (.silenceTimerExpiry p) s = .next x :=
    h ▸ State.exec_silenceTimerExpiry working other serving runs
  have record : stopped.peer p = { s.peer p with silenceTimer := none } := s.peer_silenceStopped p
  have state : (stopped.peer p).state = (s.peer p).state := by rw [record]
  refine ⟨fun linked => ⟨_, expiry (State.peerSilent_purges (by rwa [state])), rfl, ?peer,
      stopped.requests_purge_destination p _, stopped.responses_purge_destination p _, fun u r found home => ?closed,
      fun a q => stopped.attempt_purge_addressed p _⟩,
    fun mismatched => expiry ?once, fun absent => expiry (State.peerSilent_absent (state.trans absent))⟩
  case peer =>
    rw [State.peer_purge, if_pos rfl, record]
    rfl
  case closed => simp [SlotRecord.isOpen, State.done_of_purge found home]
  case once =>
    rw [State.peerSilent_mismatched (state.trans mismatched), record]
    exact s.setPeer_setPeer p _ _

end Sys2Proof.Machine

/-! # Resets (R42, R78, R112, R135, R152, R154, R157, R164, R165, R169): O3, O4, O55 -/

namespace Sys2Proof.Machine

/-- Every range record is 0 after a reset (R155). -/
@[simp] theorem ConfigBlock.zero_range (k : Fin 8) :
    ConfigBlock.zero.ranges.get k = { first := 0#16, last := 0#16, home := 0#16 } :=
  Vector.get_replicate 8 _ k

namespace State

section PowerOn

variable (straps : Straps) (q : List Instr)

/-! ## What stands after a power-on reset (R164) -/

@[simp] theorem slot_powerOn (t : Tag) : (powerOn straps q).slot t = none := Vector.get_replicate 32 _ t

@[simp] theorem peer_powerOn (p : Station) : (powerOn straps q).peer p = PeerRecord.unheard :=
  Vector.get_replicate 16 _ p

@[simp] theorem sendRecord_powerOn (p : Station) : (powerOn straps q).sendRecord p = SendRecord.clear 0#8 :=
  Vector.get_replicate 16 _ p

@[simp] theorem receiveRecord_powerOn (p : Station) : (powerOn straps q).receiveRecord p = none :=
  Vector.get_replicate 16 _ p

@[simp] theorem staged_powerOn (i : Fin 14) : (powerOn straps q).staged i = 0#16 := Vector.get_replicate 14 _ i

/-- The links of a station that has heard nobody (R152). -/
theorem peerInv_powerOn : PeerInv (powerOn straps q) := by
  have quiet : (powerOn straps q).bus.NoneCounts := fun _ _ _ sending => nomatch sending
  exact (peerInv_iff _).mpr ⟨linkFits_of_unheard (.powerOn straps q) nofun quiet rfl, fun _ => rfl⟩

end PowerOn

/-! ## The port reset and its release (R157, R165) -/

/-- A port reset in CONFIG keeps the previous epoch; elsewhere the configured epoch becomes it (R157). -/
theorem previousEpochAfterPortReset_eq (s : State) : s.previousEpochAfterPortReset =
    if s.ctl.state = .config then s.ctl.previousEpoch else some s.ctl.cfg.epoch := by
  unfold previousEpochAfterPortReset
  cases s.ctl.state <;> rfl

end State

/-- Settles O3, block by block. -/
theorem powerOnResetValues : Obligations.PowerOnResetValues := fun straps s =>
  ⟨State.powerOn straps s.pending, rfl,
    -- the station controller
    rfl, rfl, rfl, rfl, rfl, rfl, ConfigBlock.zero_range,
    -- the home, the request table and the completion queue
    rfl, State.slot_powerOn straps _, rfl,
    -- the line, and the delivery unit's queues and marks
    rfl, rfl, rfl, rfl, rfl,
    fun p =>
      ⟨State.sendRecord_powerOn straps _ p, State.receiveRecord_powerOn straps _ p, State.peer_powerOn straps _ p⟩,
    -- the roster's timer and mark
    rfl, rfl,
    -- the port and its outputs
    State.staged_powerOn straps _, rfl, rfl, rfl, rfl, rfl, rfl, rfl⟩

/-- Settles O4: the port reset is the power-on reset with three fields of the station controller replaced, and its
release an event under the condition that RST- is asserted. -/
theorem portResetAndRelease : Obligations.PortResetAndRelease := by
  intro s straps
  refine ⟨⟨_, rfl, ?values⟩, fun asserted => ?released, fun working => ?ignored⟩
  case values =>
    rw [← s.previousEpochAfterPortReset_eq]
    rfl
  case released => exact congrArg Host.Outcome.next (onlyIf_of_holds _ s _ asserted)
  case ignored => exact congrArg Host.Outcome.next (onlyIf_of_fails _ s _ (by simp [working]))

/-- Settles O55: each invariant with its parts named holds of empty tables and queues, nobody heard and the line in
START-UP. -/
theorem invariantsAtReset : Obligations.InvariantsAtReset := fun straps waiting =>
  ⟨((State.homeBounded_iff _).mp (.powerOn straps waiting)).1,
    (State.recordsLawful_iff _).mp (.of_reset rfl),
    (State.framesLawful_iff _).mp (.of_reset rfl rfl),
    (State.lifeLawful_iff _).mp (.powerOn straps waiting),
    (State.lineLawful_iff _).mp (.powerOn straps waiting),
    State.peerInv_powerOn straps waiting⟩

end Sys2Proof.Machine

/-! # Commands that are not taken (R165, R167, R186): O5 -/

namespace Sys2Proof.Machine

/-- A port that is not free takes no cycle (R167). -/
theorem portCycle_of_not_free (s : State) (f : State → State) (held : ¬ s.portFree) : portCycle s f = s :=
  if_pos (by simpa [or_iff_not_imp_left] using held)

namespace State

variable {s : State}

/-- A read that is stalled holds the port (R167, R186). -/
theorem not_portFree_of_stalled {t : Tag} {n : Nat} (stalled : s.port.window = .stalled t n) : ¬ s.portFree :=
  fun free => nomatch free.2.symm.trans stalled

/-- Where the port is not free no word is driven, for RST- is asserted or a read is stalled (R165, R167, R186). -/
theorem LifeLawful.dataOut_of_not_free (life : s.LifeLawful) (held : ¬ s.portFree) : s.port.dataOut = none := by
  by_cases asserted : s.ctl.resetAsserted = true
  · exact (life.reset asserted).2
  · cases window : s.port.window with
    | idle => exact absurd ⟨by simpa using asserted, window⟩ held
    | stalled t n =>
      obtain ⟨-, released, -⟩ := life.stall t n window
      exact released

/-- While RST- is asserted every command but a reset and its release is a port cycle that is not taken or an event that
does not take place (R165, R167). -/
theorem exec_of_reset {c : Instr} (asserted : s.ctl.resetAsserted = true) (noReset : c ≠ .portReset)
    (noPowerOn : ∀ x, c ≠ .powerOnReset x) (noRelease : ∀ x, c ≠ .portResetRelease x) : exec c s = .next s := by
  have held : ¬ s.portFree := fun free => by simp [free.1] at asserted
  have cycle (f : State → State) : (.next (portCycle s f) : Result) = .next s :=
    congrArg _ (portCycle_of_not_free s f held)
  have event (f : State → State) : (.next (running s f) : Result) = .next s :=
    congrArg _ (running_of_reset s f asserted)
  cases c with
  | portReset => exact absurd rfl noReset
  | powerOnReset x => exact absurd rfl (noPowerOn x)
  | portResetRelease x => exact absurd rfl (noRelease x)
  | acquire | release | cancel | start | leave | pop | interruptEnable | registerWrite | acquireWindowRead
  | releaseWindowWrite => exact cycle _
  | readStrobeWithdrawal | windowWaitLimitExpiry | slotTimerExpiry | holdOffExpiry | presenceTimerExpiry
  | silenceTimerExpiry | listenTimerExpiry | leavingTimerExpiry | acquireAtHome | releaseAtHome | cancelAtHome
  | walkStep | loopbackMove | sendingOpportunity | readBackMismatch | ownTransmissionEnd | windowClose
  | ackTransmission | startupLineIdle | transmissionBegin | requestFrameReceipt | responseFrameReceipt
  | presenceReceipt | leaveFrameReceipt | ackReceipt | malformedFrame => exact event _

end State

/-- Settles O5: what is not taken is a port cycle with the port not free, or an event under RST-. -/
theorem noCommandTaken : Obligations.NoCommandTaken := by
  refine ⟨fun c s => State.exec_of_reset, fun s pins held => ⟨portCycle_of_not_free s _ held, fun life => ?_⟩,
    fun s t n v a m l stalled => ?_⟩
  · exact (s.lifeLawful_iff.mpr life).dataOut_of_not_free held
  · have cycle (f : State → State) : (.next (portCycle s f) : Result) = .next s :=
      congrArg _ (portCycle_of_not_free s f (State.not_portFree_of_stalled stalled))
    exact ⟨cycle _, cycle _, cycle _, cycle _, cycle _, cycle _, cycle _, cycle _, cycle _, cycle _⟩

end Sys2Proof.Machine

/-! # The words that software writes (R155, R168, R171, R172, R183): O17, O18

The write of a word at its place in the address map, and what the word then reads. -/

namespace Sys2Proof.Machine

/-- The words of the configuration block (R171). -/
abbrev ConfigWord (a : PortAddr) : Prop :=
  0x008 ≤ a.toNat ∧ a.toNat ≤ 0x00C ∨ 0x010 ≤ a.toNat ∧ a.toNat ≤ 0x027

namespace State

/-- A range record's word just written. -/
theorem writeRange_word (k : Fin 8) {j : Nat} (inside : j < 3) (v : Word) (c : ConfigBlock) :
    writeRange (3 * k.val + j) v c =
      { c with ranges := vset c.ranges k (writeRangeWord (c.ranges.get k) j v) } := by
  have record : Fin.ofNat 8 ((3 * k.val + j) / 3) = k := Fin.ext (by rw [Fin.val_ofNat]; omega)
  have word : (3 * k.val + j) % 3 = j := by omega
  simp only [writeRange, record, word]

variable {s : State} {a : PortAddr} {v : Word}

/-! ## Writes by their place (R168) -/

theorem writeConfig_in_config (f : ConfigBlock → ConfigBlock) (config : s.ctl.state = .config) :
    s.writeConfig f = s.withCtl { s.ctl with cfg := f s.ctl.cfg } := if_pos config

theorem writeConfig_elsewhere (f : ConfigBlock → ConfigBlock) (other : s.ctl.state ≠ .config) :
    s.writeConfig f = s := if_neg other

variable (s v) in
theorem writeWord_range {n : Nat} (place : a.toNat = 0x010 + n) (inside : n < 24) :
    s.writeWord a v = s.writeConfig (writeRange n v) := by
  simp (disch := omega) only [writeWord, place, if_neg, if_pos, Nat.add_sub_cancel_left]

variable (s v) in
theorem writeWord_staging {n : Nat} (place : a.toNat = 0x030 + n) (inside : n < 14) :
    s.writeWord a v = s.withPort { s.port with staging := vset s.port.staging (Fin.ofNat 14 n) v } := by
  simp (disch := omega) only [writeWord, place, if_neg, if_pos, Nat.add_sub_cancel_left]

/-- A word of the range records reads as written (R171). -/
theorem rangeWord_of_written {n : Nat} {c : ConfigBlock} (written : s.ctl.cfg = writeRange n v c) :
    s.rangeWord n = v := by
  simp only [rangeWord, written, writeRange, vset_get_self]
  match n % 3 with
  | 0 | 1 | _ + 2 => rfl

/-- The write of a configuration word is a write of the configuration block after which the word reads as written
(R155, R171). -/
theorem writeWord_config (word : ConfigWord a) (v : Word) : ∃ f : ConfigBlock → ConfigBlock,
    (∀ s : State, s.writeWord a v = s.writeConfig f) ∧
      ∀ (s : State) (c : ConfigBlock), s.ctl.cfg = f c → s.wordAt a = v := by
  have single (n : Nat) (place : a.toNat = n) : a = BitVec.ofNat 14 n := by
    rw [← place, BitVec.ofNat_toNat, BitVec.setWidth_eq]
  rcases word with five | range
  · have places : a.toNat = 0x008 ∨ a.toNat = 0x009 ∨ a.toNat = 0x00A ∨ a.toNat = 0x00B ∨ a.toNat = 0x00C := by
      omega
    rcases places with place | place | place | place | place <;> obtain rfl := single _ place
    · exact ⟨fun c => { c with epoch := v }, fun _ => rfl, fun _ _ => congrArg ConfigBlock.epoch⟩
    · exact ⟨fun c => { c with presenceInterval := v }, fun _ => rfl, fun _ _ => congrArg ConfigBlock.presenceInterval⟩
    · exact ⟨fun c => { c with silenceLimit := v }, fun _ => rfl, fun _ _ => congrArg ConfigBlock.silenceLimit⟩
    · exact ⟨fun c => { c with windowWaitLimit := v }, fun _ => rfl, fun _ _ => congrArg ConfigBlock.windowWaitLimit⟩
    · exact ⟨fun c => { c with rangeCount := v }, fun _ => rfl, fun _ _ => congrArg ConfigBlock.rangeCount⟩
  · have place : a.toNat = 0x010 + (a.toNat - 0x010) := by omega
    have inside : a.toNat - 0x010 < 24 := by omega
    exact ⟨_, fun s => s.writeWord_range v place inside,
      fun s c written => (s.wordAt_range place inside).trans (rangeWord_of_written written)⟩

/-! ## Register writes at a free port -/

/-- A REGISTER_WRITE at a free port is the write of its word, with the data lines released (R167). -/
theorem exec_registerWrite_of_free (free : s.portFree) :
    exec (.registerWrite a v) s = .next (s.cycleTaken.writeWord a v) :=
  congrArg Host.Outcome.next (portCycle_of_free s _ free)

/-- In CONFIG the write of a field of the configuration block stores it (R155). -/
theorem exec_registerWrite_config {f : ConfigBlock → ConfigBlock} (free : s.portFree) (config : s.ctl.state = .config)
    (write : s.cycleTaken.writeWord a v = s.cycleTaken.writeConfig f) :
    exec (.registerWrite a v) s = .next { s.cycleTaken with ctl := { s.ctl with cfg := f s.ctl.cfg } } := by
  rw [exec_registerWrite_of_free free, write, writeConfig_in_config (s := s.cycleTaken) f config]
  rfl

/-- Word j of range record k is stored in CONFIG (R155, R171). -/
theorem exec_registerWrite_range (free : s.portFree) (config : s.ctl.state = .config) (k : Fin 8) {j n : Nat}
    (inside : j < 3) (place : n = 0x010 + (3 * k.val + j)) :
    exec (.registerWrite (BitVec.ofNat 14 n) v) s =
      .next { s.cycleTaken with ctl := { s.ctl with cfg := { s.ctl.cfg with
        ranges := vset s.ctl.cfg.ranges k (writeRangeWord (s.ctl.cfg.ranges.get k) j v) } } } := by
  have address : (BitVec.ofNat 14 n).toNat = 0x010 + (3 * k.val + j) := (toNat_ofNat_of_lt (by omega)).trans place
  rw [exec_registerWrite_config free config (s.cycleTaken.writeWord_range v address (by omega)),
    writeRange_word k inside]

/-- A word that a write has stored is read back from the free port it leaves (R167). -/
theorem reads_written {t : State} (free : s.portFree) (plain : a.toNat < 0x1000)
    (stores : s.cycleTaken.writeWord a v = t) (stays : t.portFree) (word : t.wordAt a = v) :
    ∃ t, exec (.registerWrite a v) s = .next t ∧ t.reads a v := by
  refine ⟨t, (exec_registerWrite_of_free free).trans (congrArg _ stores), ?_⟩
  have shown := t.reads_wordAt stays (.inl plain)
  rwa [word] at shown

end State

/-- Settles O17, by the place of the word in the address map. -/
theorem registerWriteStores : Obligations.RegisterWriteStores := by
  intro s v free
  refine ⟨fun config => ?config, fun other a word => ?elsewhere, fun i => ?staging, ?probe⟩
  case config =>
    have field (a : PortAddr) (f : ConfigBlock → ConfigBlock) :=
      State.exec_registerWrite_config (a := a) (v := v) (f := f) free config
    refine ⟨field _ (fun c => { c with epoch := v }) rfl, field _ (fun c => { c with presenceInterval := v }) rfl,
      field _ (fun c => { c with silenceLimit := v }) rfl, field _ (fun c => { c with windowWaitLimit := v }) rfl,
      field _ (fun c => { c with rangeCount := v }) rfl, fun k => ⟨?_, ?_, ?_⟩⟩
    · exact State.exec_registerWrite_range free config k (j := 0) (by omega) (by omega)
    · exact State.exec_registerWrite_range free config k (j := 1) (by omega) (by omega)
    · exact State.exec_registerWrite_range free config k (j := 2) (by omega) (by omega)
  case elsewhere =>
    obtain ⟨f, write, -⟩ := State.writeWord_config word v
    rw [State.exec_registerWrite_of_free free, write, State.writeConfig_elsewhere (s := s.cycleTaken) f other]
  case staging =>
    have index : Fin.ofNat 14 i.val = i := Fin.ext (Nat.mod_eq_of_lt i.isLt)
    rw [State.exec_registerWrite_of_free free,
      State.writeWord_staging _ v (n := i.val) (toNat_ofNat_of_lt (by omega)) i.isLt, index]
    rfl
  case probe => exact State.exec_registerWrite_of_free free

/-- Settles O18, by the kind of word. -/
theorem registerReadsBack : Obligations.RegisterReadsBack := by
  rintro s a v free (⟨config, word⟩ | staging | probe)
  case inl =>
    obtain ⟨f, write, read⟩ := State.writeWord_config word v
    have stores := (write s.cycleTaken).trans (State.writeConfig_in_config f config)
    exact State.reads_written free (by omega) stores free (read _ _ rfl)
  case inr.inl =>
    have place : a.toNat = 0x030 + (a.toNat - 0x030) := by omega
    have inside : a.toNat - 0x030 < 14 := by omega
    refine State.reads_written free (by omega) (s.cycleTaken.writeWord_staging v place inside) free ?_
    exact (State.wordAt_staging _ place inside).trans (vset_get_self _ _ _)
  case inr.inr =>
    obtain rfl : a = 0x050#14 := BitVec.eq_of_toNat_eq probe
    exact State.reads_written free (by omega) rfl free rfl

end Sys2Proof.Machine

/-! # Submissions that are refused (R173 to R176): O7, O11

A submission judges its staging words first, each as a whole, and then what the tables say of its lock. Each check that
fails is one lemma, which says the result that it stores. -/

namespace Sys2Proof.Machine

/-! ## The staging words judged (R1, R172, R174, R175) -/

/-- A word other than 1 and 2 names no mode. -/
theorem modeOfCode_none {w : Word} (one : w ≠ 1#16) (two : w ≠ 2#16) : modeOfCode w.toNat = none := by
  unfold modeOfCode
  split
  · next code => exact absurd (BitVec.eq_of_toNat_eq code) one
  · next code => exact absurd (BitVec.eq_of_toNat_eq code) two
  · rfl

/-- A word other than 1 and 2 names no wait kind. -/
theorem waitOfCode_none {w : Word} (one : w ≠ 1#16) (two : w ≠ 2#16) : waitOfCode w.toNat = none := by
  unfold waitOfCode
  split
  · next code => exact absurd (BitVec.eq_of_toNat_eq code) one
  · next code => exact absurd (BitVec.eq_of_toNat_eq code) two
  · rfl

namespace State

variable {s : State} {l : LockId} {t : Tag} {r : SlotRecord}

theorem stagedLock_of_le (inside : (s.staged 0).toNat ≤ 4095) : s.stagedLock = some ((s.staged 0).setWidth 12) :=
  if_pos inside

theorem stagedLock_of_gt (above : 4095 < (s.staged 0).toNat) : s.stagedLock = none :=
  if_neg (Nat.not_le.mpr above)

theorem stagedMode_of_named (named : s.staged 1 = 1#16 ∨ s.staged 1 = 2#16) : ∃ m, s.stagedMode = some m := by
  rw [stagedMode]
  rcases named with word | word <;> rw [word]
  · exact ⟨.exclusive, rfl⟩
  · exact ⟨.shared, rfl⟩

theorem stagedWait_of_named (named : s.staged 2 = 1#16 ∨ s.staged 2 = 2#16) : ∃ w, s.stagedWait = some w := by
  rw [stagedWait]
  rcases named with word | word <;> rw [word]
  · exact ⟨.tryOnce, rfl⟩
  · exact ⟨.queue, rfl⟩

/-- The update words of a RELEASE that pass their check (R175). -/
theorem stagedUpdate_of_sound (sound : s.staged 4 = 0#16 ∨ s.staged 4 = 1#16 ∧ (s.staged 5).toNat ≤ 16) :
    ∃ u v, s.stagedUpdate = some (u, v) := by
  rw [stagedUpdate]
  rcases sound with clear | ⟨set, short⟩
  · exact ⟨_, _, if_pos clear⟩
  · rw [set, if_neg (by decide), if_pos rfl]
    exact ⟨_, _, if_pos short⟩

/-- The update words of a RELEASE that fail it (R175). -/
theorem stagedUpdate_of_unsound
    (unsound : (s.staged 4 ≠ 0#16 ∧ s.staged 4 ≠ 1#16) ∨ (s.staged 4 = 1#16 ∧ 16 < (s.staged 5).toNat)) :
    s.stagedUpdate = none := by
  rw [stagedUpdate]
  rcases unsound with ⟨zero, one⟩ | ⟨set, long⟩
  · rw [if_neg zero, if_neg one]
  · rw [set, if_neg (by decide), if_pos rfl]
    exact if_neg (Nat.not_le.mpr long)

/-! ## A submission at a free port -/

/-- A submission that stores a refusal and no more, at a free port (R173). -/
theorem portCycle_refused {f : State → State} {x : SubmissionResult} (free : s.portFree)
    (refused : f s.cycleTaken = s.cycleTaken.setResult x) :
    (.next (portCycle s f) : Result) = .next (s.answered x) :=
  congrArg Host.Outcome.next ((portCycle_of_free s f free).trans refused)

/-! ## ACQUIRE (R174) -/

theorem submitAcquire_offline (other : s.ctl.state ≠ .online) : s.submitAcquire = s.setResult .notOnline := if_pos other

theorem submitAcquire_badField (online : s.ctl.state = .online)
    (bad : s.stagedLock = none ∨ s.stagedMode = none ∨ s.stagedWait = none) :
    s.submitAcquire = s.setResult .badField := by
  rw [submitAcquire, if_neg (not_not_intro online)]
  split
  · next lock mode wait => simp [lock, mode, wait] at bad
  · rfl

theorem submitAcquire_refused {m : LockMode} {w : WaitKind} {x : SubmissionResult} (online : s.ctl.state = .online)
    (lock : s.stagedLock = some l) (mode : s.stagedMode = some m) (wait : s.stagedWait = some w)
    (refused : s.admitAcquire l = .error x) : s.submitAcquire = s.setResult x := by
  simp only [submitAcquire, online, ne_eq, not_true_eq_false, if_false, lock, mode, wait, refused]

/-! ## RELEASE (R175) -/

theorem submitRelease_offline (other : s.ctl.state ≠ .online) : s.submitRelease = s.setResult .notOnline := if_pos other

theorem submitRelease_badField (online : s.ctl.state = .online) (bad : s.stagedLock = none ∨ s.stagedUpdate = none) :
    s.submitRelease = s.setResult .badField := by
  rw [submitRelease, if_neg (not_not_intro online)]
  split
  · next lock update => simp [lock, update] at bad
  · rfl

theorem submitRelease_notOpen {u : Bool} {v : List Byte} (online : s.ctl.state = .online)
    (lock : s.stagedLock = some l) (update : s.stagedUpdate = some (u, v)) (unused : s.lockUnused l) :
    s.submitRelease = s.setResult .notOpen := by
  simp only [submitRelease, online, ne_eq, not_true_eq_false, if_false, lock, update, slotForLock_of_unused s l unused]

theorem submitRelease_notHeld {u : Bool} {v : List Byte} (online : s.ctl.state = .online)
    (lock : s.stagedLock = some l) (update : s.stagedUpdate = some (u, v)) (mine : s.slotForLock l = some t)
    (found : s.slot t = some r) (unheld : r.state ≠ .held) : s.submitRelease = s.setResult .notHeld := by
  simp only [submitRelease, online, ne_eq, not_true_eq_false, if_false, lock, update, mine, found, unheld]

/-! ## CANCEL (R176) -/

theorem submitCancel_offline (other : s.ctl.state ≠ .online) : s.submitCancel = s.setResult .notOnline := if_pos other

theorem submitCancel_badField (online : s.ctl.state = .online) (bad : s.stagedLock = none) :
    s.submitCancel = s.setResult .badField := by
  simp only [submitCancel, online, ne_eq, not_true_eq_false, if_false, bad]

theorem submitCancel_notOpen (online : s.ctl.state = .online) (lock : s.stagedLock = some l)
    (unused : s.lockUnused l) : s.submitCancel = s.setResult .notOpen := by
  simp only [submitCancel, online, ne_eq, not_true_eq_false, if_false, lock, slotForLock_of_unused s l unused]

theorem submitCancel_notWaiting (online : s.ctl.state = .online) (lock : s.stagedLock = some l)
    (mine : s.slotForLock l = some t) (found : s.slot t = some r)
    (settled : ¬ ((r.state = .pending ∧ r.mark = false) ∨ r.state = .waiting)) :
    s.submitCancel = s.setResult .notWaiting := by
  simp only [submitCancel, online, ne_eq, not_true_eq_false, if_false, lock, mine, found, if_neg settled]

end State

/-- Settles O7: the first check that fails is the station state, a staging word, or one of the admission. -/
theorem acquireRefused : Obligations.AcquireRefused := by
  intro s free
  have answers {x : SubmissionResult} (refused : s.cycleTaken.submitAcquire = s.cycleTaken.setResult x) :
      exec .acquire s = .next (s.answered x) := State.portCycle_refused free refused
  refine ⟨fun other => answers (State.submitAcquire_offline other),
    fun online => ⟨fun bad => answers (State.submitAcquire_badField online ?_), fun inside mode wait => ?_⟩⟩
  · rcases bad with above | ⟨one, two⟩ | ⟨one, two⟩
    · exact .inl (State.stagedLock_of_gt above)
    · exact .inr (.inl (modeOfCode_none one two))
    · exact .inr (.inr (waitOfCode_none one two))
  · obtain ⟨m, mode⟩ := State.stagedMode_of_named (s := s.cycleTaken) mode
    obtain ⟨w, wait⟩ := State.stagedWait_of_named (s := s.cycleTaken) wait
    have denied {x : SubmissionResult} (refused : s.cycleTaken.admitAcquire ((s.staged 0).setWidth 12) = .error x) :
        exec .acquire s = .next (s.answered x) :=
      answers (State.submitAcquire_refused online (State.stagedLock_of_le inside) mode wait refused)
    exact ⟨fun unmapped => denied (State.admitAcquire_unmapped _ _ unmapped), fun h mapped =>
      ⟨fun used => denied (State.admitAcquire_duplicate _ _ h mapped used), fun unused =>
        ⟨fun unusable => denied (State.admitAcquire_unavailable _ _ h mapped unused unusable),
          fun usable full => denied (State.admitAcquire_full _ _ h mapped unused usable full)⟩⟩⟩

/-- Settles O11: the first check that fails is the station state, a staging word, or the slot of the lock. -/
theorem releaseAndCancelRefused : Obligations.ReleaseAndCancelRefused := by
  intro s free
  have releaseAnswers {x : SubmissionResult} (refused : s.cycleTaken.submitRelease = s.cycleTaken.setResult x) :
      exec .release s = .next (s.answered x) := State.portCycle_refused free refused
  have cancelAnswers {x : SubmissionResult} (refused : s.cycleTaken.submitCancel = s.cycleTaken.setResult x) :
      exec .cancel s = .next (s.answered x) := State.portCycle_refused free refused
  refine ⟨fun other => ⟨releaseAnswers (State.submitRelease_offline other),
    cancelAnswers (State.submitCancel_offline other)⟩, fun online =>
    ⟨fun bad => releaseAnswers (State.submitRelease_badField online ?_),
      fun above => cancelAnswers (State.submitCancel_badField online (State.stagedLock_of_gt above)),
      fun inside => ?_⟩⟩
  · rcases bad with above | unsound
    · exact .inl (State.stagedLock_of_gt above)
    · exact .inr (State.stagedUpdate_of_unsound (s := s.cycleTaken) unsound)
  · have lock : s.cycleTaken.stagedLock = some ((s.staged 0).setWidth 12) := State.stagedLock_of_le inside
    refine ⟨fun unused => ⟨cancelAnswers (State.submitCancel_notOpen online lock unused), fun sound => ?_⟩,
      fun t r found rlock only => ?_⟩
    · obtain ⟨u, v, update⟩ := State.stagedUpdate_of_sound (s := s.cycleTaken) sound
      exact releaseAnswers (State.submitRelease_notOpen online lock update unused)
    · have mine : s.cycleTaken.slotForLock ((s.staged 0).setWidth 12) = some t :=
        s.slotForLock_of_only _ t r found rlock (rlock ▸ only)
      refine ⟨fun settled => cancelAnswers (State.submitCancel_notWaiting online lock mine found ?_),
        fun unheld sound => ?_⟩
      · rcases settled with ⟨pending, marked⟩ | state | state | state | state
        · simp [pending, marked]
        all_goals simp [state]
      · obtain ⟨u, v, update⟩ := State.stagedUpdate_of_sound (s := s.cycleTaken) sound
        exact releaseAnswers (State.submitRelease_notHeld online lock update mine found unheld)

end Sys2Proof.Machine

/-! # Writes without effect, and the interrupt (R167, R168, R170, R173): O16, O19 -/

namespace Sys2Proof.Machine

/-! ## Words that no write changes (R168) -/

/-- A value other than the five codes names no command (R173). -/
theorem commandOfCode_none {n : Nat} (unnamed : n = 0 ∨ 5 < n) : commandOfCode n = none := by
  unfold commandOfCode
  split
  case h_6 => rfl
  all_goals omega

/-- The words that the address map marks Ignored, its gaps and the acquire windows: every place below the release
window that is not a word of its own (R168). -/
abbrev IgnoresWrites (a : PortAddr) : Prop :=
  a.toNat = 0x000 ∨ a.toNat = 0x001 ∨ (0x003 ≤ a.toNat ∧ a.toNat ≤ 0x007) ∨
    (0x00D ≤ a.toNat ∧ a.toNat ≤ 0x00F) ∨ (0x028 ≤ a.toNat ∧ a.toNat ≤ 0x02F) ∨
    (0x03F ≤ a.toNat ∧ a.toNat ≤ 0x04B) ∨ (0x04D ≤ a.toNat ∧ a.toNat ≤ 0x04F) ∨
    (0x051 ≤ a.toNat ∧ a.toNat ≤ 0x2FFF)

namespace State

variable {a : PortAddr} {v : Word}

/-- A submission of a code that names no command changes nothing (R173). -/
theorem submit_unnamed (s : State) (unnamed : v = 0#16 ∨ 5 < v.toNat) : s.submit v = s := by
  have none : commandOfCode v.toNat = none := commandOfCode_none (unnamed.imp_left (congrArg BitVec.toNat))
  simp only [submit, none]

theorem writeWord_submit (s : State) : s.writeWord 0x03E#14 v = s.submit v := rfl

theorem writeWord_ignored (s : State) (ignored : IgnoresWrites a) : s.writeWord a v = s := by
  simp (disch := omega) only [writeWord, if_neg]

/-! ## The interrupt output (R170) -/

/-- IRQ- is active while the enable is set and a record waits. -/
theorem irqActive_iff (s : State) :
    s.irqActive = true ↔ s.port.interruptEnable = true ∧ s.req.completions ≠ [] := by
  rw [irqActive, Bool.and_eq_true, Bool.not_eq_true', Ne, ← List.isEmpty_iff, Bool.not_eq_true]

end State

/-- Settles O19, by the place of the word in the address map, or by the strobes. -/
theorem registerWriteIgnored : Obligations.RegisterWriteIgnored := by
  refine ⟨fun s a v free place => ?_, fun s pins free rd wr => ?_⟩
  · have unchanged : s.cycleTaken.writeWord a v = s.cycleTaken := by
      have kinds : IgnoresWrites a ∨ a.toNat = 0x03E ∧ (v = 0#16 ∨ 5 < v.toNat) := by tauto
      rcases kinds with ignored | ⟨submit, unnamed⟩
      · exact s.cycleTaken.writeWord_ignored ignored
      · obtain rfl : a = 0x03E#14 := BitVec.eq_of_toNat_eq submit
        exact s.cycleTaken.writeWord_submit.trans (s.cycleTaken.submit_unnamed unnamed)
    exact (State.exec_registerWrite_of_free free).trans (congrArg _ unchanged)
  · exact (s.takeCycle_bothStrobes pins rd wr).trans (portCycle_of_free s _ free)

/-- Settles O16: the write, the word and the output. -/
theorem interruptEnableAndOutput : Obligations.InterruptEnableAndOutput := by
  intro s v
  refine ⟨fun free => ?_, fun free => ?_, s.irqActive_iff⟩
  · exact congrArg Host.Outcome.next (portCycle_of_free s _ free)
  · exact State.reads_wordAt s free (.inl (by decide))

end Sys2Proof.Machine

/-! # A stalled read that the processor gives up (R167, R189, R190): O24

What the cancel of a slot does, it does whatever the port shows; so the withdrawal of the strobe and the wait limit
differ in the word driven only. -/

namespace Sys2Proof.Machine
namespace State

variable {s : State} {t : Tag}

/-! ## The port has no part in a cancel (R61) -/

theorem sendOrOwe_withPort (s : State) (p : LocalPort) (t : Tag) (r : SlotRecord) (b : RequestBody) :
    (s.withPort p).sendOrOwe t r b = (s.sendOrOwe t r b).withPort p := by
  rw [sendOrOwe, sendOrOwe, dlv_withPort]
  split <;> rfl

theorem withdraw_withPort (s : State) (p : LocalPort) (t : Tag) (e : OutRequest) :
    (s.withPort p).withdraw t e = (s.withdraw t e).withPort p := by
  have same : (s.withPort p).requestIsStarted e = s.requestIsStarted e := rfl
  rw [withdraw, withdraw, same]
  split <;> rfl

theorem withdrawAndFinish_withPort (s : State) (p : LocalPort) (t : Tag) (r : SlotRecord) (e : OutRequest) :
    (s.withPort p).withdrawAndFinish t r e = (s.withdrawAndFinish t r e).withPort p := by
  rw [withdrawAndFinish, withdraw_withPort]
  rfl

theorem cancelSlot_withPort (s : State) (p : LocalPort) (t : Tag) (cause : CancelCause) :
    (s.withPort p).cancelSlot t cause = (s.cancelSlot t cause).withPort p := by
  have slot : (s.withPort p).slot t = s.slot t := rfl
  have withdrawable (e : OutRequest) : (s.withPort p).withdrawable e = s.withdrawable e := rfl
  unfold cancelSlot
  rw [slot]
  cases s.slot t with
  | none => rfl
  | some r =>
    dsimp only
    cases r.state with
    | held | releasing | cancelling | done => rfl
    | waiting => exact s.sendOrOwe_withPort p t _ _
    | pending =>
      dsimp only
      split
      · rfl
      · rw [dlv_withPort]
        cases acquireFrameOf t s.dlv.requests with
        | none => rfl
        | some e =>
          dsimp only
          rw [withdrawable]
          split
          · exact s.withdrawAndFinish_withPort p t _ e
          · rfl

/-! ## The end of the read (R190) -/

/-- The stalled read has ended with no word driven (R190). -/
def readWithdrawn (s : State) : State := { s with port := { s.port with window := .idle, dataOut := none } }

/-- The withdrawal of the strobe ends the stalled read, and its slot is cancelled (R190). -/
theorem withdrawStrobe_of_stalled {n : Nat} (stalled : s.port.window = .stalled t n) :
    s.withdrawStrobe = s.readWithdrawn.cancelSlot t .windowLimit := by
  simp only [withdrawStrobe, stalled]
  rfl

theorem withdrawStrobe_of_idle (idle : s.port.window = .idle) :
    s.withdrawStrobe = { s with port := { s.port with dataOut := none } } := by
  simp only [withdrawStrobe, idle]
  rfl

/-- The withdrawal cancels the slot as the wait limit does, and drives no word (R190). -/
theorem readWithdrawn_cancelSlot (s : State) (t : Tag) (cause : CancelCause) :
    s.readWithdrawn.cancelSlot t cause =
      (s.readTimedOut.cancelSlot t cause).withPort { (s.readTimedOut.cancelSlot t cause).port with dataOut := none } := by
  rw [cancelSlot_port]
  exact s.readTimedOut.cancelSlot_withPort s.readWithdrawn.port t cause

end State

/-- Settles O24: no read is stalled, or the read ends and its slot is cancelled. -/
theorem strobeWithdrawalEndsRead : Obligations.StrobeWithdrawalEndsRead := by
  intro s working
  refine ⟨fun idle => ?_, fun t n stalled => ?_⟩
  · exact congrArg _ ((running_of_working s _ working).trans (State.withdrawStrobe_of_idle idle))
  · have withdrawal : exec .readStrobeWithdrawal s = .next (s.readWithdrawn.cancelSlot t .windowLimit) :=
      congrArg _ ((running_of_working s _ working).trans (State.withdrawStrobe_of_stalled stalled))
    have limit : exec .windowWaitLimitExpiry s = .next (s.readTimedOut.cancelSlot t .windowLimit) :=
      congrArg _ ((running_of_working s _ working).trans (State.windowLimit_of_stalled stalled))
    refine ⟨_, _, withdrawal, limit, s.readWithdrawn_cancelSlot t _, State.cancelSlot_port _ _ _,
      fun r found waiting gone => ?_⟩
    rw [s.readWithdrawn.cancelSlot_waiting .windowLimit found waiting, State.sendOrOwe_sends (s := s.readWithdrawn) _ gone]
    exact vset_get_self _ _ _

end Sys2Proof.Machine

/-! # Window reads refused at once (R185, R187): O21 -/

namespace Sys2Proof.Machine

namespace State

variable {s : State} {m : LockMode} {l : LockId}

/-- A refused window read drives its result word: the refusal's byte with no detail (R187). -/
theorem refuseRead_cycleTaken (s : State) (x : SubmissionResult) :
    s.cycleTaken.refuseRead x = s.readRefused x := rfl

/-- Outside ONLINE a window read is refused before any other check (R185). -/
theorem acquireByWindow_offline (other : s.ctl.state ≠ .online) :
    s.acquireByWindow m l = s.refuseRead .notOnline := if_pos other

/-- A window read that the admission refuses names the check that failed (R185). -/
theorem acquireByWindow_refused {x : SubmissionResult} (online : s.ctl.state = .online)
    (refused : s.admitAcquire l = .error x) : s.acquireByWindow m l = s.refuseRead x := by
  simp only [acquireByWindow, online, ne_eq, not_true_eq_false, if_false, refused]

end State

/-- Settles O21: the first check that fails is the station state or one of the admission. -/
theorem windowReadRefused : Obligations.WindowReadRefused := by
  intro s m l free
  have returns {x : SubmissionResult} (refused : s.cycleTaken.acquireByWindow m l = s.cycleTaken.refuseRead x) :
      exec (.acquireWindowRead m l) s = .next (s.readRefused x) :=
    congrArg _ (((portCycle_of_free s _ free).trans refused).trans (s.refuseRead_cycleTaken x))
  refine ⟨fun other => returns (State.acquireByWindow_offline other), fun online => ?_⟩
  have denied {x : SubmissionResult} (refused : s.cycleTaken.admitAcquire l = .error x) :
      exec (.acquireWindowRead m l) s = .next (s.readRefused x) :=
    returns (State.acquireByWindow_refused online refused)
  exact ⟨fun unmapped => denied (State.admitAcquire_unmapped _ _ unmapped), fun h mapped =>
    ⟨fun used => denied (State.admitAcquire_duplicate _ _ h mapped used), fun unused =>
      ⟨fun unusable => denied (State.admitAcquire_unavailable _ _ h mapped unused unusable),
        fun usable full => denied (State.admitAcquire_full _ _ h mapped unused usable full)⟩⟩⟩

end Sys2Proof.Machine

/-! # The queue of waiting commands (logs 4, 5, 24): O1, O2 -/

namespace Sys2Proof.Machine

/-- With a command waiting a step runs it on the state with the queue's rest. -/
theorem step_of_waiting (s : State) (c : Instr) (rest : List Instr) (waiting : s.pending = c :: rest) :
    step s = exec c (s.withPending rest) := by
  rw [step, waiting]

/-- With no command waiting the block idles (log 4). -/
theorem step_of_idle (s : State) (idle : s.pending = []) : step s = .next s := by
  rw [step, idle]

/-- Settles O1, from the two cases of the queue: a command at its front, and none. -/
theorem stepRunsFrontCommand : Obligations.StepRunsFrontCommand :=
  ⟨fun s c rest => step_of_waiting { s with pending := c :: rest } c rest rfl, step_of_idle⟩

namespace State

variable (s : State) {f : State → State}

/-- An event that takes place only under its condition keeps the queue when its effect does. -/
theorem onlyIf_pending (c : Prop) [Decidable c] (kept : (f s).pending = s.pending) :
    (onlyIf c s f).pending = s.pending := by
  by_cases holds : c
  · rw [onlyIf_of_holds c s f holds, kept]
  · rw [onlyIf_of_fails c s f holds]

/-- An event of the working station keeps the queue when its effect does. -/
theorem running_pending (kept : (f s).pending = s.pending) : (running s f).pending = s.pending := by
  by_cases asserted : s.ctl.resetAsserted = true
  · rw [running_of_reset s f asserted]
  · rw [running_of_working s f (by simpa using asserted), kept]

/-- A port cycle keeps the queue when its effect does on the state with the data lines released. -/
theorem portCycle_pending (kept : ∀ x : State, (f x).pending = x.pending) :
    (portCycle s f).pending = s.pending := by
  by_cases free : s.portFree
  · exact (congrArg pending (portCycle_of_free s f free)).trans ((kept s.cycleTaken).trans (s.pending_withPort _))
  · rw [portCycle_of_not_free s f free]

/-! ## The events whose condition stands in a named operation -/

theorem takeOpportunity_pending : s.takeOpportunity.pending = s.pending :=
  s.onlyIf_pending _ ((chooseAndSend_pending _).trans s.atOwnPosition_pending)

theorem beginAck_pending : s.beginAck.pending = s.pending := by
  unfold beginAck
  split
  · rfl
  · exact s.onlyIf_pending _ (s.pending_withBus _)

theorem slotTimeout_pending (t : Tag) : (s.slotTimeout t).pending = s.pending := by
  unfold slotTimeout
  split
  · rfl
  · exact s.onlyIf_pending _ (s.cancelSlot_pending t _)

theorem presenceTimeout_pending : s.presenceTimeout.pending = s.pending :=
  s.onlyIf_pending _ ((pending_withRoster _ _).trans s.setPresenceDue_pending)

theorem peerSilent_pending (p : Station) : (s.peerSilent p).pending = s.pending := by
  unfold peerSilent
  split
  · exact s.purge_pending p _
  · exact s.purge_pending p _
  · exact s.setPeer_pending p _
  · rfl

theorem silenceTimeout_pending (p : Station) : (s.silenceTimeout p).pending = s.pending :=
  s.onlyIf_pending _ ((peerSilent_pending _ p).trans (s.setPeer_pending p _))

end State

/-- Settles O2: a command is a port cycle, an event of the working station, or a reset; each of them answers a next
state, and none of their effects touches the queue. -/
theorem everyCommandCompletes : Obligations.EveryCommandCompletes := by
  intro c s
  have cycle {f : State → State} (kept : ∀ x : State, (f x).pending = x.pending) :
      ∃ t, (.next (portCycle s f) : Result) = .next t ∧ t.pending = s.pending :=
    ⟨_, rfl, s.portCycle_pending kept⟩
  have event {f : State → State} (kept : (f s).pending = s.pending) :
      ∃ t, (.next (running s f) : Result) = .next t ∧ t.pending = s.pending :=
    ⟨_, rfl, s.running_pending kept⟩
  cases c with
  | acquire => exact cycle State.submitAcquire_pending
  | release => exact cycle State.submitRelease_pending
  | cancel => exact cycle State.submitCancel_pending
  | start => exact cycle State.submitStart_pending
  | leave => exact cycle State.submitLeave_pending
  | pop => exact cycle State.popRecord_pending
  | interruptEnable v => exact cycle fun x => x.writeInterruptEnable_pending v
  | registerWrite a v => exact cycle fun x => x.writeWord_pending a v
  | acquireWindowRead m l => exact cycle fun x => x.acquireByWindow_pending m l
  | releaseWindowWrite l => exact cycle fun x => x.releaseByWindow_pending l
  | readStrobeWithdrawal => exact event s.withdrawStrobe_pending
  | windowWaitLimitExpiry => exact event s.windowLimit_pending
  | powerOnReset => exact ⟨_, rfl, rfl⟩
  | portReset => exact ⟨_, rfl, s.portResetValues_pending⟩
  | portResetRelease straps => exact ⟨_, rfl, s.onlyIf_pending _ (s.releasePortReset_pending straps)⟩
  | slotTimerExpiry t => exact event (s.slotTimeout_pending t)
  | acquireAtHome => exact event s.serveAcquire_pending
  | releaseAtHome => exact event s.serveRelease_pending
  | cancelAtHome => exact event s.serveCancel_pending
  | walkStep => exact event s.stepWalk_pending
  | loopbackMove => exact event s.moveLoopback_pending
  | sendingOpportunity => exact event s.takeOpportunity_pending
  | readBackMismatch bit => exact event (s.readBack_pending bit)
  | ownTransmissionEnd => exact event s.ownFrameEnds_pending
  | windowClose => exact event (s.onlyIf_pending _ s.closeWindow_pending)
  | ackTransmission => exact event s.beginAck_pending
  | holdOffExpiry d => exact event (s.onlyIf_pending _ (s.setSend_pending d _))
  | startupLineIdle => exact event (s.onlyIf_pending _ (s.pending_withBus _))
  | requestFrameReceipt | responseFrameReceipt | presenceReceipt | leaveFrameReceipt | ackReceipt | malformedFrame =>
    exact event (s.receive_pending _)
  | presenceTimerExpiry => exact event s.presenceTimeout_pending
  | silenceTimerExpiry p => exact event (s.silenceTimeout_pending p)
  | listenTimerExpiry => exact event (s.onlyIf_pending _ s.enterOnline_pending)
  | leavingTimerExpiry => exact event (s.onlyIf_pending _ s.endLeaving_pending)
  | transmissionBegin => exact event (s.onlyIf_pending _ (s.pending_withBus _))

end Sys2Proof.Machine
